-- ==== Sys2Proof/Word.lean ====
section
/-! DEFINITION. The three word types of CORE128: the 128-bit patterns on the operand and result ports, the 64-bit words
they are made of (00_scope.md R3, R9), and the 32-bit command word (30_encoding.md R55). -/

namespace Sys2Proof

/-- A 128-bit operand or result pattern (00_scope.md R3). "Every bit pattern is a valid value" (R9). -/
abbrev Data := BitVec 128

/-- One of the two 64-bit words of a pattern (00_scope.md R9). -/
abbrev Word64 := BitVec 64

/-- A command word (30_encoding.md R55, R56). -/
abbrev CmdWord := BitVec 32

end Sys2Proof
end

