-- ==== Sys2Proof/Syntax.lean ====
section
/-! DEFINITION. The commands of CORE128, one constructor for each row of spec/opcode_table.json (30_encoding.md R60). The
operands are not fields of a command: they are always the latches OPA and OPB (R59). The one immediate of a constructor is
the 7-bit shift amount (R57). The width of a convert command is part of its constructor, as it is of its mnemonic (R58). -/

namespace Sys2Proof

/-- A legal command (30_encoding.md R60, R62). -/
inductive Instr where
  /-- CLZ64: count leading zeros of the low word of A (40_bit_primitives.md R80). -/
  | clz64
  /-- FLS: index of the last set bit of A, unchecked (40_bit_primitives.md R82). -/
  | fls
  /-- FLSC: index of the last set bit of A, checked (40_bit_primitives.md R83). -/
  | flsc
  /-- ADD: wrapping addition (41_add_sub.md R90). -/
  | add
  /-- ADDC: addition with carry-out (41_add_sub.md R91). -/
  | addc
  /-- SUB: wrapping subtraction (41_add_sub.md R92). -/
  | sub
  /-- NEG: wrapping negation (41_add_sub.md R93). -/
  | neg
  /-- NEGS: checked signed negation (41_add_sub.md R94). -/
  | negs
  /-- AND: bitwise and (42_bitwise_shift.md R100). -/
  | and
  /-- OR: bitwise or (42_bitwise_shift.md R101). -/
  | or
  /-- XOR: bitwise exclusive or (42_bitwise_shift.md R102). -/
  | xor
  /-- NOT: bitwise complement (42_bitwise_shift.md R103). -/
  | not
  /-- SHL: left shift by the amount (42_bitwise_shift.md R104). -/
  | shl (amount : BitVec 7)
  /-- SHR: logical right shift by the amount (42_bitwise_shift.md R105). -/
  | shr (amount : BitVec 7)
  /-- SAR: arithmetic right shift by the amount (42_bitwise_shift.md R106). -/
  | sar (amount : BitVec 7)
  /-- UMUL64: 64 by 64 to 128 bit unsigned product of the low words (43_multiply.md R115). -/
  | umul64
  /-- MUL: truncating multiply (43_multiply.md R116). -/
  | mul
  /-- MULS: signed multiply with sign correction (43_multiply.md R118). -/
  | muls
  /-- DIVU: unsigned quotient (44_divide.md R127). -/
  | divu
  /-- REMU: unsigned remainder (44_divide.md R128). -/
  | remu
  /-- DIVMODU: unsigned quotient and remainder (44_divide.md R129). -/
  | divmodu
  /-- DIVS: signed quotient (44_divide.md R131). -/
  | divs
  /-- REMS: signed remainder (44_divide.md R132). -/
  | rems
  /-- DIVMODS: signed quotient and remainder (44_divide.md R133). -/
  | divmods
  /-- CMPU: unsigned three-way comparison (45_compare_sign.md R140). -/
  | cmpu
  /-- CMPS: signed three-way comparison (45_compare_sign.md R141). -/
  | cmps
  /-- SGN: signed sign (45_compare_sign.md R142). -/
  | sgn
  /-- ABS: checked absolute value (45_compare_sign.md R143). -/
  | abs
  /-- UABS: magnitude (45_compare_sign.md R144). -/
  | uabs
  /-- SEXT.B: sign-extend the low 8 bits (46_convert.md R150). -/
  | sextB
  /-- SEXT.H: sign-extend the low 16 bits (46_convert.md R150). -/
  | sextH
  /-- SEXT.W: sign-extend the low 32 bits (46_convert.md R150). -/
  | sextW
  /-- SEXT.D: sign-extend the low 64 bits (46_convert.md R150). -/
  | sextD
  /-- ZEXT.B: zero-extend the low 8 bits (46_convert.md R151). -/
  | zextB
  /-- ZEXT.H: zero-extend the low 16 bits (46_convert.md R151). -/
  | zextH
  /-- ZEXT.W: zero-extend the low 32 bits (46_convert.md R151). -/
  | zextW
  /-- ZEXT.D: zero-extend the low 64 bits (46_convert.md R151). -/
  | zextD
  /-- NARS.B: range-checked narrowing to 8 signed bits (46_convert.md R152). -/
  | narsB
  /-- NARS.H: range-checked narrowing to 16 signed bits (46_convert.md R152). -/
  | narsH
  /-- NARS.W: range-checked narrowing to 32 signed bits (46_convert.md R152). -/
  | narsW
  /-- NARS.D: range-checked narrowing to 64 signed bits (46_convert.md R152). -/
  | narsD
  /-- NARU.B: range-checked narrowing to 8 unsigned bits (46_convert.md R153). -/
  | naruB
  /-- NARU.H: range-checked narrowing to 16 unsigned bits (46_convert.md R153). -/
  | naruH
  /-- NARU.W: range-checked narrowing to 32 unsigned bits (46_convert.md R153). -/
  | naruW
  /-- NARU.D: range-checked narrowing to 64 unsigned bits (46_convert.md R153). -/
  | naruD
  deriving DecidableEq, Repr

end Sys2Proof
end

