-- ==== Sys2Proof/Assembly.lean ====
section
/-! DEFINITION. The written form of a command (30_encoding.md R63), the pseudo-commands (R65) and the statements of a host
program (R64), as data. The characters of the text are not modelled (log entry 12). -/

namespace Sys2Proof

/-- The named constants of 00_scope.md R12 that may stand as operands (30_encoding.md R63). -/
inductive NamedConst where
  | zero | umax | smin | smax | one | mone
  deriving DecidableEq, Repr

/-- An operand value (30_encoding.md R63). -/
inductive AsmOperand where
  /-- A decimal integer, optionally with a leading `-`, standing for `enc(v)`. -/
  | decimal (v : Int)
  /-- A pattern `0x` followed by hex digits, the most significant first. -/
  | hex (digits : List (BitVec 4))
  /-- A named constant. -/
  | named (c : NamedConst)
  deriving DecidableEq, Repr

/-- The three mnemonics that take an amount `#s` (30_encoding.md R63). -/
inductive ShiftMnemonic where
  | shl | shr | sar
  deriving DecidableEq, Repr

/-- A written command of 30_encoding.md R63 or R65 over operands of type `α`. -/
inductive Line (α : Type) where
  /-- `MNEMONIC[.sfx] A`, a command that reads A alone and takes no amount. -/
  | unary (i : Instr) (a : α)
  /-- `MNEMONIC A, B`, a command that reads A and B. -/
  | binary (i : Instr) (a b : α)
  /-- `SHL A, #s`, `SHR A, #s`, `SAR A, #s`. -/
  | shift (m : ShiftMnemonic) (a : α) (amount : Int)
  /-- `INC a` (R65). -/
  | inc (a : α)
  /-- `DEC a` (R65). -/
  | dec (a : α)
  /-- `MOV a` (R65). -/
  | mov (a : α)
  /-- `CLR` (R65). -/
  | clr
  /-- `CMPZ a` (R65). -/
  | cmpz (a : α)
  deriving DecidableEq, Repr

/-- A line of the assembler (30_encoding.md R63). -/
abbrev AsmLine := Line AsmOperand

/-- An operand in a host program: "host variables may stand as operands" (30_encoding.md R64). -/
inductive HostOperand where
  | value (a : AsmOperand)
  | variable (v : Nat)
  deriving DecidableEq, Repr

/-- A condition of a host program, in the two forms 95_test_vectors.md section 4 uses: `v = a` and `v != a`. -/
inductive HostCond where
  | eq (v : Nat) (a : AsmOperand)
  | ne (v : Nat) (a : AsmOperand)
  deriving DecidableEq, Repr

/-- One statement of a host program (30_encoding.md R64). Host variables and labels are numbered. -/
inductive HostStmt where
  /-- `v := OP args`. -/
  | assign (v : Nat) (l : Line HostOperand)
  /-- `q, r := OP args`. -/
  | assignPair (q r : Nat) (l : Line HostOperand)
  /-- `c := C`. -/
  | readC (v : Nat)
  /-- `e := ERR`. -/
  | readErr (v : Nat)
  /-- `label:`. -/
  | label (n : Nat)
  /-- `if cond goto label`. -/
  | ifGoto (cond : HostCond) (n : Nat)
  /-- `goto label`. -/
  | goto (n : Nat)
  deriving DecidableEq, Repr

end Sys2Proof
end

