-- ==== Sys2Proof/Machine/Operands.lean ====
section
/-! DEFINITION. How a command reads its operands and forms a result: the words, values, constants and extensions of
00_scope.md R9 to R14, the narrow views of 20_memory.md R45, the byte lanes of R44 and `clz64`. -/

namespace Sys2Proof.Machine

/-- `x.hi = x[127:64]` (00_scope.md R9). -/
def hi (x : Data) : Word64 := x.extractLsb' 64 64

/-- `x.lo = x[63:0]` (00_scope.md R9). -/
def lo (x : Data) : Word64 := x.extractLsb' 0 64

/-- The pattern with the words `h` and `l`, `h ++ l` (00_scope.md R8, R9). -/
def ofWords (h l : Word64) : Data := h ++ l

/-- `uval(x)`, the unsigned value (00_scope.md R9). -/
def uval (x : Data) : Int := x.toNat

/-- `sval(x)`, the two's-complement value (00_scope.md R10). -/
def sval (x : Data) : Int := uval x - if x.msb then 2 ^ 128 else 0

/-- `enc(v)`, the pattern whose unsigned value is `v mod 2^128` (00_scope.md R11). -/
def enc (v : Int) : Data := BitVec.ofInt 128 v

/-- `ZERO` (00_scope.md R12). -/
def zero : Data := 0x0#128
/-- `UMAX = 1^128` (00_scope.md R12). -/
def umax : Data := 0xFFFFFFFFFFFFFFFFFFFFFFFFFFFFFFFF#128
/-- `SMIN`, called MinValue (00_scope.md R12). -/
def smin : Data := 0x80000000000000000000000000000000#128
/-- `SMAX` (00_scope.md R12). -/
def smax : Data := 0x7FFFFFFFFFFFFFFFFFFFFFFFFFFFFFFF#128
/-- `ONE = enc(1)` (00_scope.md R12). -/
def one : Data := enc 1
/-- `MONE = enc(−1)` (00_scope.md R12). -/
def mone : Data := enc (-1)

/-- `Sign(x)`: 0, 1 or −1 (00_scope.md R13). -/
def sign (x : Data) : Int :=
  if hi x = 0 ∧ lo x = 0 then 0 else if x.msb then -1 else 1

/-- `enc(|sval(x)|)`, the magnitude (00_scope.md R17, 44_divide.md R130, 45_compare_sign.md R144); SMIN gives 2^127. -/
def magnitude (x : Data) : Data := enc (sval x).natAbs

/-- `sext_N(x[N−1:0])` (00_scope.md R11, 20_memory.md R45). -/
def sext (n : Nat) (x : Data) : Data := (x.setWidth n).signExtend 128

/-- `zext_N(x[N−1:0])` (00_scope.md R11, 20_memory.md R45). -/
def zext (n : Nat) (x : Data) : Data := (x.setWidth n).setWidth 128

/-- How many of the `k` lowest bits of `w`, read from bit `k−1` downwards, are 0 before the first 1. -/
def leadingZerosBelow {n : Nat} (w : BitVec n) : Nat → Nat
  | 0 => 0
  | k + 1 => if w.getLsbD k then 0 else leadingZerosBelow w k + 1

/-- The number of leading zero bits of a word of any width, its width for the word 0 (00_scope.md R14, 40_bit_primitives.md
R84 for 128 bits). -/
def leadingZeros {n : Nat} (w : BitVec n) : Nat := leadingZerosBelow w n

/-- `clz64(w)`, 0 to 64 (00_scope.md R14, 40_bit_primitives.md R80). -/
def clz64 (w : Word64) : Nat := leadingZeros w

/-- Byte lane `k` of a 128-bit port, bits `8k+7 .. 8k` (20_memory.md R44). -/
def byteLane (x : Data) (k : Nat) : BitVec 8 := x.extractLsb' (8 * k) 8

/-- The pattern whose byte lanes, from lane 0 up, are the bytes of a buffer (20_memory.md R44). -/
def ofLanes : List (BitVec 8) → Data
  | [] => 0#128
  | b :: bs => (ofLanes bs <<< 8) ||| b.setWidth 128

/-- The 16-byte buffer a 128-bit port writes (20_memory.md R44). -/
def toLanes (x : Data) : List (BitVec 8) := (List.range 16).map (byteLane x)

end Sys2Proof.Machine
end

