-- ==== Sys2Proof/Config.lean ====
section
/-! DEFINITION. What an implementation of the block fixes (the parameter LATENCY) and what the spec leaves unspecified (the
outputs while a command is in flight, the divider's working values). All are opaque constants: no proof can learn a value
of one, so a claim about them holds whatever an implementation does. -/

namespace Sys2Proof

/-- LATENCY (00_scope.md R7) of a command word outside the divide family, less the one cycle every command takes
(10_state.md R32, `LAT ≥ 1`). It does not take the operands: "only the divide family's cost depends on the operands"
(70_reset_and_hazards.md R199). DEDUCED, log entry 4. -/
opaque Config.extraCycles : CmdWord → Nat

/-- LATENCY (00_scope.md R7) of a divide-family command word on its two operands, less one cycle. Log entry 4. -/
opaque Config.divideExtraCycles : CmdWord → Data → Data → Nat

/-- What `RES` holds while a command is in flight (10_state.md R31): free. Log entry 5. -/
opaque Config.freeRes : Nat → Data

/-- What `RES2` holds while a command is in flight (10_state.md R31): free. Log entry 5. -/
opaque Config.freeRes2 : Nat → Data

/-- What `STATUS.C` holds while a command is in flight (10_state.md R31): free. Log entry 5. -/
opaque Config.freeCarry : Nat → Bool

/-- What `STATUS.ERR` holds while a command is in flight (10_state.md R31): free, any 3-bit pattern. Log entry 5. -/
opaque Config.freeErr : Nat → BitVec 3

/-- The divider's running dividend (10_state.md R30) after an edge it may work on: free. Log entry 7. -/
opaque Config.freeDividend : Nat → Data

/-- The divider's running quotient (10_state.md R30) after an edge it may work on: free. Log entry 7. -/
opaque Config.freeQuotient : Nat → Data

/-- The divider's aligned divisor (10_state.md R30) after an edge it may work on: free. Log entry 7. -/
opaque Config.freeDivisor : Nat → Data

/-- The divider's iteration count (10_state.md R30) after an edge it may work on: free. Log entry 7. -/
opaque Config.freeCount : Nat → BitVec 8

/-- What a host drives on `A_IN` for a command that does not read A (30_encoding.md R59, R64): free. Log entry 12. -/
opaque Config.freeA : Nat → Data

/-- What a host drives on `B_IN` for a command that does not read B (30_encoding.md R59, R64): free. Log entry 12. -/
opaque Config.freeB : Nat → Data

end Sys2Proof
end

