-- ==== Sys2Proof/Machine/State.lean ====
section
/-! DEFINITION. The state of the block (10_state.md R20 to R30), the reasons a step can stop, and the state after reset
(10_state.md R28, 70_reset_and_hazards.md R190). The block has no memory and no program counter (20_memory.md R41, 10_state.md
R29), so State has neither. -/

namespace Sys2Proof.Machine

/-- The levels the host drives on the input ports at one rising edge of CLK (10_state.md R20). -/
structure PortIn where
  /-- `RST`, active high, synchronous. -/
  rst : Bool
  /-- `START`, command valid. -/
  start : Bool
  /-- `CMD_IN`. -/
  cmdIn : CmdWord
  /-- `A_IN`. -/
  aIn : Data
  /-- `B_IN`. -/
  bIn : Data
  deriving DecidableEq, Repr

/-- The divider's working values (10_state.md R30, 44_divide.md R126), "never readable". -/
structure DivWork where
  /-- Running dividend. -/
  dividend : Data
  /-- Running quotient. -/
  quotient : Data
  /-- Aligned divisor. -/
  divisor : Data
  /-- Remaining iterations, at most 128. -/
  count : BitVec 8
  deriving DecidableEq, Repr

/-- Everything the block holds, and after it the model's own three fields. -/
structure State where
  /-- Command latch `CMD` (10_state.md R21). -/
  cmd : CmdWord
  /-- Operand latch `OPA` (10_state.md R21). -/
  opa : Data
  /-- Operand latch `OPB` (10_state.md R21). -/
  opb : Data
  /-- `RES` (10_state.md R23). -/
  res : Data
  /-- `RES2` (10_state.md R24). -/
  res2 : Data
  /-- `STATUS.BUSY` (10_state.md R27). -/
  busy : Bool
  /-- `STATUS.DONE` (10_state.md R27). -/
  done : Bool
  /-- `STATUS.C` (10_state.md R25, R27). -/
  c : Bool
  /-- `STATUS.ERR` (10_state.md R26, R27). -/
  err : BitVec 3
  /-- The divider's working values (10_state.md R28, R30). Log entry 7. -/
  div : DivWork
  /-- The model's own: edges to wait before the edge that completes the command in flight (10_state.md R32). Log entry 11. -/
  wait : Nat
  /-- The model's own: the index of the next free value. Log entry 6. -/
  free : Nat
  /-- The model's own: what the host drives at the coming edges, the next one first. Log entry 1. -/
  inputs : List PortIn
  deriving DecidableEq, Repr

/-- The reasons the machine stops with a fault. -/
inductive Fault where
  /-- Raised by FLS when `OPA = ZERO` (40_bit_primitives.md R82, 60_exceptions.md R169: "a model treats an FLS command with
  `OPA = ZERO` as a fault, never as a value"). Safe: the hardware answers something the spec does not give (log entry 8). -/
  | flsZeroOperand
  deriving DecidableEq, Repr

/-- The reasons the model refuses a step. -/
inductive Refusal where
  /-- Raised by an arm of exec whose instruction has no meaning yet; no arm is left that raises it. Safe. -/
  | notModelled (mnemonic : String)
  deriving DecidableEq, Repr

/-- The working values the model starts with; the spec gives none (DESIGN CHOICE, log entry 7). -/
def DivWork.initial : DivWork :=
  { dividend := 0#128, quotient := 0#128, divisor := 0#128, count := 0#8 }

/-- The machine right after reset (10_state.md R28, 70_reset_and_hazards.md R190). `div`, `wait`, `free` and `inputs` are
the model's choice (DESIGN CHOICE, log entries 7, 11, 6 and 1). -/
def State.reset : State :=
  { cmd := 0#32, opa := 0#128, opb := 0#128, res := 0#128, res2 := 0#128
    busy := false, done := false, c := false, err := 0#3
    div := DivWork.initial, wait := 0, free := 0, inputs := [] }

end Sys2Proof.Machine
end

