-- ==== Sys2Proof/Machine/Flags.lean ====
section
/-! DEFINITION. The one flag (10_state.md R25), the error codes (60_exceptions.md R166) and the views the output ports give
(10_state.md R20, R27). -/

namespace Sys2Proof.Machine

/-- The carry-out of `a + b`: "`uval(OPA) + uval(OPB) ≥ 2^128`" (10_state.md R25, 41_add_sub.md R91). -/
def carryOut (a b : Data) : Bool := decide (uval a + uval b ≥ 2 ^ 128)

/-- The error kinds of 60_exceptions.md R166. -/
inductive ErrKind where
  | divideByZero
  | overflow
  | arithmetic
  /-- Reserved: no command raises it (R166, 93_implementation_defined.md I12). -/
  | format
  | zeroOperand
  | illegalCommand
  deriving DecidableEq, Repr

/-- `NONE`, the code of a success (60_exceptions.md R166). -/
def errNone : BitVec 3 := 0#3

/-- `code(E)` (60_exceptions.md R166). -/
def ErrKind.code : ErrKind → BitVec 3
  | .divideByZero => 1#3
  | .overflow => 2#3
  | .arithmetic => 3#3
  | .format => 4#3
  | .zeroOperand => 5#3
  | .illegalCommand => 6#3

/-- `STATUS`: BUSY bit 0, DONE bit 1, C bit 2, ERR bits 5:3, bits 31:6 hardwired to 0 (10_state.md R27). -/
def State.status (s : State) : BitVec 32 :=
  0#26 ++ s.err ++ BitVec.ofBool s.c ++ BitVec.ofBool s.done ++ BitVec.ofBool s.busy

/-- `RES_OUT` (10_state.md R20, R23). -/
def State.resOut (s : State) : Data := s.res

/-- `RES2_OUT` (10_state.md R20, R24). -/
def State.res2Out (s : State) : Data := s.res2

/-- `STATUS_OUT` (10_state.md R20, R27). -/
def State.statusOut (s : State) : BitVec 32 := s.status

end Sys2Proof.Machine
end

