-- ==== Sys2Proof/Machine/Ops.lean ====
section
/-! DEFINITION. The two ways a command ends (00_scope.md R15): `complete` and `raise`. `raise` is the block's whole handling
of an error: "Trap entry does not exist" (60_exceptions.md R172), and no return from one exists (R173). Both are one write of
the response, on one edge (10_state.md R32, 20_memory.md R47). The block has no memory and no register file, so there are no
operations over either (20_memory.md R40, 10_state.md R30). -/

namespace Sys2Proof.Machine

/-- A response: RES, RES2, C, ERR (00_scope.md R17). -/
structure Response where
  res : Data
  res2 : Data
  c : Bool
  err : BitVec 3
  deriving DecidableEq, Repr

/-- The completion edge: "the block writes the response ..., sets `BUSY <- 0` and `DONE <- 1`, all on one edge"
(10_state.md R32). -/
def State.answer (s : State) (r : Response) : State :=
  { s with res := r.res, res2 := r.res2, c := r.c, err := r.err, busy := false, done := true }

/-- `complete(r, r2, c)` (60_exceptions.md R167). -/
def State.complete (s : State) (r r2 : Data) (c : Bool) : State :=
  s.answer { res := r, res2 := r2, c := c, err := errNone }

/-- `raise E` (60_exceptions.md R168). -/
def State.raise (s : State) (e : ErrKind) : State :=
  s.answer { res := zero, res2 := zero, c := false, err := e.code }

/-- What a meaning answers. -/
abbrev Result := Host.Outcome State Fault Refusal

/-- A command that ends with `complete(r, ZERO, 0)`, the form most rules take (10_state.md R24, R25). -/
def succeed (r : Data) (s : State) : Result := .next (s.complete r zero false)

/-- A command that ends with `raise E`. -/
def fail (e : ErrKind) (s : State) : Result := .next (s.raise e)

end Sys2Proof.Machine
end

