-- ==== Sys2Proof/Machine/AddSub.lean ====
section
/-! DEFINITION. ADD, ADDC, SUB, NEG, NEGS (41_add_sub.md). -/

namespace Sys2Proof.Machine

/-- The wrapping negate `enc(0 − uval(x))`, which never raises (41_add_sub.md R93, 90_conflicts.md C4). -/
def wrapNeg (x : Data) : Data := enc (0 - uval x)

/-- ADD (41_add_sub.md R90). -/
def execAdd (s : State) : Result := succeed (enc (uval s.opa + uval s.opb)) s

/-- ADDC, the one command that writes the carry-out (41_add_sub.md R91). -/
def execAddc (s : State) : Result :=
  .next (s.complete (enc (uval s.opa + uval s.opb)) zero (carryOut s.opa s.opb))

/-- SUB (41_add_sub.md R92). -/
def execSub (s : State) : Result := succeed (enc (uval s.opa - uval s.opb)) s

/-- NEG (41_add_sub.md R93). -/
def execNeg (s : State) : Result := succeed (wrapNeg s.opa) s

/-- NEGS (41_add_sub.md R94). -/
def execNegs (s : State) : Result :=
  if s.opa = smin then fail .arithmetic s else succeed (enc (-sval s.opa)) s

end Sys2Proof.Machine
end

