-- ==== Sys2Proof/Machine/BitPrimitives.lean ====
section
/-! DEFINITION. CLZ64, FLS, FLSC (40_bit_primitives.md). -/

namespace Sys2Proof.Machine

/-- The index of the most significant 1 bit of a nonzero pattern, 0 to 127 (40_bit_primitives.md R82). -/
def flsIndex (x : Data) : Nat :=
  if hi x ≠ 0 then 127 - clz64 (hi x) else 63 - clz64 (lo x)

/-- CLZ64 (40_bit_primitives.md R80). -/
def execClz64 (s : State) : Result := succeed (enc (clz64 (lo s.opa))) s

/-- FLS, unchecked: a fault on a zero operand (40_bit_primitives.md R82, 60_exceptions.md R169; log entry 8). -/
def execFls (s : State) : Result :=
  if s.opa = zero then .fault .flsZeroOperand else succeed (enc (flsIndex s.opa)) s

/-- FLSC, checked (40_bit_primitives.md R83). -/
def execFlsc (s : State) : Result :=
  if s.opa = zero then fail .zeroOperand s else succeed (enc (flsIndex s.opa)) s

end Sys2Proof.Machine
end

