-- ==== Sys2Proof/Machine/BitwiseShift.lean ====
section
/-! DEFINITION. AND, OR, XOR, NOT, SHL, SHR, SAR (42_bitwise_shift.md). The shifts are the word-level branches of R104 to
R106, which use no 64-bit shift by 64 or more (93_implementation_defined.md I2). -/

namespace Sys2Proof.Machine

/-- `asr64(w, k)`, the arithmetic right shift of a word by 0 to 63 (42_bitwise_shift.md, opening paragraph). -/
def asr64 (w : Word64) (k : Nat) : Word64 := w.sshiftRight k

/-- The left shift of 42_bitwise_shift.md R104 by `s`, 0 to 127. -/
def shiftLeft (x : Data) (s : Nat) : Data :=
  if s = 0 then x
  else if s < 64 then ofWords ((hi x <<< s) ||| (lo x >>> (64 - s))) (lo x <<< s)
  else ofWords (lo x <<< (s - 64)) 0

/-- The logical right shift of 42_bitwise_shift.md R105 by `s`, 0 to 127. -/
def shiftRight (x : Data) (s : Nat) : Data :=
  if s = 0 then x
  else if s < 64 then ofWords (hi x >>> s) ((lo x >>> s) ||| (hi x <<< (64 - s)))
  else ofWords 0 (hi x >>> (s - 64))

/-- The arithmetic right shift of 42_bitwise_shift.md R106 by `s`, 0 to 127. -/
def shiftArith (x : Data) (s : Nat) : Data :=
  if s = 0 then x
  else if s < 64 then ofWords (asr64 (hi x) s) ((lo x >>> s) ||| (hi x <<< (64 - s)))
  else ofWords (if (hi x).msb then BitVec.allOnes 64 else 0) (asr64 (hi x) (s - 64))

/-- AND (42_bitwise_shift.md R100). -/
def execAnd (s : State) : Result := succeed (s.opa &&& s.opb) s

/-- OR (42_bitwise_shift.md R101). -/
def execOr (s : State) : Result := succeed (s.opa ||| s.opb) s

/-- XOR (42_bitwise_shift.md R102). -/
def execXor (s : State) : Result := succeed (s.opa ^^^ s.opb) s

/-- NOT (42_bitwise_shift.md R103). -/
def execNot (s : State) : Result := succeed (~~~s.opa) s

/-- SHL (42_bitwise_shift.md R104). -/
def execShl (amount : BitVec 7) (s : State) : Result := succeed (shiftLeft s.opa amount.toNat) s

/-- SHR (42_bitwise_shift.md R105). -/
def execShr (amount : BitVec 7) (s : State) : Result := succeed (shiftRight s.opa amount.toNat) s

/-- SAR (42_bitwise_shift.md R106). -/
def execSar (amount : BitVec 7) (s : State) : Result := succeed (shiftArith s.opa amount.toNat) s

end Sys2Proof.Machine
end

