-- ==== Sys2Proof/Machine/CompareSign.lean ====
section
/-! DEFINITION. CMPU, CMPS, SGN, ABS, UABS (45_compare_sign.md). A comparison answers in RES; there are no comparison flags. -/

namespace Sys2Proof.Machine

/-- The three-way comparison of two integers: −1, 0 or 1 (45_compare_sign.md R140, R141). -/
def threeWay (x y : Int) : Int := if x < y then -1 else if x > y then 1 else 0

/-- CMPU (45_compare_sign.md R140). -/
def execCmpu (s : State) : Result := succeed (enc (threeWay (uval s.opa) (uval s.opb))) s

/-- CMPS (45_compare_sign.md R141). -/
def execCmps (s : State) : Result := succeed (enc (threeWay (sval s.opa) (sval s.opb))) s

/-- SGN (45_compare_sign.md R142). -/
def execSgn (s : State) : Result := succeed (enc (sign s.opa)) s

/-- ABS (45_compare_sign.md R143). -/
def execAbs (s : State) : Result :=
  if s.opa = smin then fail .arithmetic s
  else if s.opa.msb then succeed (enc (-sval s.opa)) s
  else succeed s.opa s

/-- UABS (45_compare_sign.md R144). -/
def execUabs (s : State) : Result := succeed (magnitude s.opa) s

end Sys2Proof.Machine
end

