-- ==== Sys2Proof/Machine/Convert.lean ====
section
/-! DEFINITION. SEXT, ZEXT, NARS, NARU at the four widths (46_convert.md, 30_encoding.md R58). -/

namespace Sys2Proof.Machine

/-- SEXT.N (46_convert.md R150). -/
def signExtendN (n : Nat) (s : State) : Result := succeed (sext n s.opa) s

/-- ZEXT.N (46_convert.md R151). -/
def zeroExtendN (n : Nat) (s : State) : Result := succeed (zext n s.opa) s

/-- NARS.N: the range check, then the low N bits with the rest 0 (46_convert.md R152). -/
def narrowSignedN (n : Nat) (s : State) : Result :=
  if sval s.opa < -2 ^ (n - 1) ∨ sval s.opa > 2 ^ (n - 1) - 1 then fail .overflow s
  else succeed (zext n s.opa) s

/-- NARU.N: the range check, then the low N bits with the rest 0 (46_convert.md R153). -/
def narrowUnsignedN (n : Nat) (s : State) : Result :=
  if sval s.opa < 0 ∨ sval s.opa > 2 ^ n - 1 then fail .overflow s
  else succeed (zext n s.opa) s

/-- SEXT.B (46_convert.md R150). -/
def execSextB (s : State) : Result := signExtendN 8 s

/-- SEXT.H (46_convert.md R150). -/
def execSextH (s : State) : Result := signExtendN 16 s

/-- SEXT.W (46_convert.md R150). -/
def execSextW (s : State) : Result := signExtendN 32 s

/-- SEXT.D (46_convert.md R150). -/
def execSextD (s : State) : Result := signExtendN 64 s

/-- ZEXT.B (46_convert.md R151). -/
def execZextB (s : State) : Result := zeroExtendN 8 s

/-- ZEXT.H (46_convert.md R151). -/
def execZextH (s : State) : Result := zeroExtendN 16 s

/-- ZEXT.W (46_convert.md R151). -/
def execZextW (s : State) : Result := zeroExtendN 32 s

/-- ZEXT.D (46_convert.md R151). -/
def execZextD (s : State) : Result := zeroExtendN 64 s

/-- NARS.B (46_convert.md R152). -/
def execNarsB (s : State) : Result := narrowSignedN 8 s

/-- NARS.H (46_convert.md R152). -/
def execNarsH (s : State) : Result := narrowSignedN 16 s

/-- NARS.W (46_convert.md R152). -/
def execNarsW (s : State) : Result := narrowSignedN 32 s

/-- NARS.D (46_convert.md R152). -/
def execNarsD (s : State) : Result := narrowSignedN 64 s

/-- NARU.B (46_convert.md R153). -/
def execNaruB (s : State) : Result := narrowUnsignedN 8 s

/-- NARU.H (46_convert.md R153). -/
def execNaruH (s : State) : Result := narrowUnsignedN 16 s

/-- NARU.W (46_convert.md R153). -/
def execNaruW (s : State) : Result := narrowUnsignedN 32 s

/-- NARU.D (46_convert.md R153). -/
def execNaruD (s : State) : Result := narrowUnsignedN 64 s

end Sys2Proof.Machine
end

