-- ==== Sys2Proof/Machine/Divide.lean ====
section
/-! DEFINITION. DIVU, REMU, DIVMODU, DIVS, REMS, DIVMODS over the two divide functions of 44_divide.md R125 and R130. -/

namespace Sys2Proof.Machine

/-- `udivmod(a, b)` for `b ≠ ZERO` (44_divide.md R125). -/
def udivmod (a b : Data) : Data × Data :=
  (enc (uval a / uval b), enc (uval a % uval b))

/-- `sdivmod(a, b)` for `b ≠ ZERO`: the unsigned divider on the magnitudes, then the signs, with the wrapping negate
(44_divide.md R130). -/
def sdivmod (a b : Data) : Data × Data :=
  let u := udivmod (magnitude a) (magnitude b)
  let q := if sign a ≠ sign b then wrapNeg u.1 else u.1
  let r := if a.msb then wrapNeg u.2 else u.2
  (q, r)

/-- DIVU (44_divide.md R127). -/
def execDivu (s : State) : Result :=
  if s.opb = zero then fail .divideByZero s else succeed (udivmod s.opa s.opb).1 s

/-- REMU (44_divide.md R128). -/
def execRemu (s : State) : Result :=
  if s.opb = zero then fail .divideByZero s else succeed (udivmod s.opa s.opb).2 s

/-- DIVMODU (44_divide.md R129). -/
def execDivmodu (s : State) : Result :=
  if s.opb = zero then fail .divideByZero s
  else .next (s.complete (udivmod s.opa s.opb).1 (udivmod s.opa s.opb).2 false)

/-- DIVS (44_divide.md R131). -/
def execDivs (s : State) : Result :=
  if s.opb = zero then fail .divideByZero s else succeed (sdivmod s.opa s.opb).1 s

/-- REMS (44_divide.md R132). -/
def execRems (s : State) : Result :=
  if s.opb = zero then fail .divideByZero s else succeed (sdivmod s.opa s.opb).2 s

/-- DIVMODS (44_divide.md R133). -/
def execDivmods (s : State) : Result :=
  if s.opb = zero then fail .divideByZero s
  else .next (s.complete (sdivmod s.opa s.opb).1 (sdivmod s.opa s.opb).2 false)

end Sys2Proof.Machine
end

