-- ==== Sys2Proof/Machine/Multiply.lean ====
section
/-! DEFINITION. UMUL64, MUL, MULS (43_multiply.md). None signals overflow (R119). -/

namespace Sys2Proof.Machine

/-- The truncating product `enc(uval(a)·uval(b))` (43_multiply.md R116). -/
def mulTrunc (a b : Data) : Data := enc (uval a * uval b)

/-- The general path of MULS: the truncating product, negated when bit 127 of it disagrees with the expected sign
(43_multiply.md R118). -/
def mulsGeneral (a b : Data) : Data :=
  let neg := decide (sign a ≠ sign b)
  let p := mulTrunc a b
  if p.msb ≠ neg then wrapNeg p else p

/-- UMUL64 (43_multiply.md R115). -/
def execUmul64 (s : State) : Result :=
  succeed (enc ((lo s.opa).toNat * (lo s.opb).toNat)) s

/-- MUL (43_multiply.md R116). -/
def execMul (s : State) : Result := succeed (mulTrunc s.opa s.opb) s

/-- MULS: the fast paths for 0, 1 and −1, then the general path (43_multiply.md R118, 60_exceptions.md R170). -/
def execMuls (s : State) : Result :=
  if s.opa = zero ∨ s.opb = zero then succeed zero s
  else if s.opa = one then succeed s.opb s
  else if s.opb = one then succeed s.opa s
  else if s.opa = mone then
    if s.opb = smin then fail .arithmetic s else succeed (enc (-sval s.opb)) s
  else if s.opb = mone then
    if s.opa = smin then fail .arithmetic s else succeed (enc (-sval s.opa)) s
  else succeed (mulsGeneral s.opa s.opb) s

end Sys2Proof.Machine
end

