-- ==== Sys2Proof/Machine/Dispatch.lean ====
section
/-! DEFINITION. exec: the meaning of each command, one arm per constructor of Instr. It is `exec(CMD, OPA, OPB)` of
10_state.md R34 for a legal command: it reads the operand latches and writes the response. -/

namespace Sys2Proof.Machine

def exec (i : Instr) (s : State) : Host.Outcome State Fault Refusal :=
  match i with
  | .clz64 => Sys2Proof.Machine.execClz64 s
  | .fls => Sys2Proof.Machine.execFls s
  | .flsc => Sys2Proof.Machine.execFlsc s
  | .add => Sys2Proof.Machine.execAdd s
  | .addc => Sys2Proof.Machine.execAddc s
  | .sub => Sys2Proof.Machine.execSub s
  | .neg => Sys2Proof.Machine.execNeg s
  | .negs => Sys2Proof.Machine.execNegs s
  | .and => Sys2Proof.Machine.execAnd s
  | .or => Sys2Proof.Machine.execOr s
  | .xor => Sys2Proof.Machine.execXor s
  | .not => Sys2Proof.Machine.execNot s
  | .shl amount => Sys2Proof.Machine.execShl amount s
  | .shr amount => Sys2Proof.Machine.execShr amount s
  | .sar amount => Sys2Proof.Machine.execSar amount s
  | .umul64 => Sys2Proof.Machine.execUmul64 s
  | .mul => Sys2Proof.Machine.execMul s
  | .muls => Sys2Proof.Machine.execMuls s
  | .divu => Sys2Proof.Machine.execDivu s
  | .remu => Sys2Proof.Machine.execRemu s
  | .divmodu => Sys2Proof.Machine.execDivmodu s
  | .divs => Sys2Proof.Machine.execDivs s
  | .rems => Sys2Proof.Machine.execRems s
  | .divmods => Sys2Proof.Machine.execDivmods s
  | .cmpu => Sys2Proof.Machine.execCmpu s
  | .cmps => Sys2Proof.Machine.execCmps s
  | .sgn => Sys2Proof.Machine.execSgn s
  | .abs => Sys2Proof.Machine.execAbs s
  | .uabs => Sys2Proof.Machine.execUabs s
  | .sextB => Sys2Proof.Machine.execSextB s
  | .sextH => Sys2Proof.Machine.execSextH s
  | .sextW => Sys2Proof.Machine.execSextW s
  | .sextD => Sys2Proof.Machine.execSextD s
  | .zextB => Sys2Proof.Machine.execZextB s
  | .zextH => Sys2Proof.Machine.execZextH s
  | .zextW => Sys2Proof.Machine.execZextW s
  | .zextD => Sys2Proof.Machine.execZextD s
  | .narsB => Sys2Proof.Machine.execNarsB s
  | .narsH => Sys2Proof.Machine.execNarsH s
  | .narsW => Sys2Proof.Machine.execNarsW s
  | .narsD => Sys2Proof.Machine.execNarsD s
  | .naruB => Sys2Proof.Machine.execNaruB s
  | .naruH => Sys2Proof.Machine.execNaruH s
  | .naruW => Sys2Proof.Machine.execNaruW s
  | .naruD => Sys2Proof.Machine.execNaruD s

end Sys2Proof.Machine
end

