-- ==== Sys2Proof/Decode.lean ====
section
/-! DEFINITION. The decoder, total on every 32-bit word and rejecting by name (30_encoding.md R62), the encoder (R56, R60),
and the spec's own list of what makes a word illegal (R61), written apart from the decoder. -/

namespace Sys2Proof

/-- `CMD.OP`, bits 7:0 (30_encoding.md R56). -/
def opField (w : CmdWord) : BitVec 8 := w.extractLsb' 0 8

/-- `CMD.SHAMT`, bits 14:8 (30_encoding.md R56, R57). -/
def shamtField (w : CmdWord) : BitVec 7 := w.extractLsb' 8 7

/-- `CMD.W`, bits 16:15 (30_encoding.md R56, R58). -/
def widthField (w : CmdWord) : BitVec 2 := w.extractLsb' 15 2

/-- `CMD.RSV`, bits 31:17 (30_encoding.md R56). -/
def rsvField (w : CmdWord) : BitVec 15 := w.extractLsb' 17 15

/-- Which condition of 30_encoding.md R61 a word meets first. The block reports none of them apart: every one completes
with IllegalCommand (log entry 13). -/
inductive Illegal where
  /-- `RSV ≠ 0`. -/
  | reservedBits
  /-- `OP` is not in the table of R60. -/
  | unassignedOpcode
  /-- `SHAMT ≠ 0` in a command that is no shift. -/
  | shamtNotZero
  /-- `W ≠ 0` in a command that is no convert. -/
  | widthNotZero
  deriving DecidableEq, Repr

/-- What a command word decodes to (30_encoding.md R62: `Cmd or Illegal`). -/
inductive Decoded where
  /-- A legal command. -/
  | cmd (i : Instr)
  /-- An illegal word. -/
  | illegal (why : Illegal)
  deriving DecidableEq, Repr

/-- The instruction of a legal word, if the word is legal. -/
def Decoded.instr? : Decoded → Option Instr
  | .cmd i => some i
  | .illegal _ => none

/-- The `Plain` case of 30_encoding.md R62: bits 16:8 must be 0. -/
def plainForm (w : CmdWord) (i : Instr) : Decoded :=
  if shamtField w ≠ 0#7 then .illegal .shamtNotZero
  else if widthField w ≠ 0#2 then .illegal .widthNotZero
  else .cmd i

/-- The `Shift` case of 30_encoding.md R62: bits 16:15 must be 0, bits 14:8 are the amount. -/
def shiftForm (w : CmdWord) (i : BitVec 7 → Instr) : Decoded :=
  if widthField w ≠ 0#2 then .illegal .widthNotZero
  else .cmd (i (shamtField w))

/-- The `Convert` case of 30_encoding.md R62: bits 14:8 must be 0, bits 16:15 select the width (R58). -/
def convertForm (w : CmdWord) (b h w32 d : Instr) : Decoded :=
  if shamtField w ≠ 0#7 then .illegal .shamtNotZero
  else match (widthField w).toNat with
    | 0 => .cmd b
    | 1 => .cmd h
    | 2 => .cmd w32
    | _ => .cmd d

/-- Decoding, total over every 32-bit word (30_encoding.md R62). -/
def decode (w : CmdWord) : Decoded :=
  if rsvField w ≠ 0#15 then .illegal .reservedBits
  else match (opField w).toNat with
    | 0x01 => plainForm w .clz64
    | 0x02 => plainForm w .fls
    | 0x03 => plainForm w .flsc
    | 0x08 => plainForm w .add
    | 0x09 => plainForm w .addc
    | 0x0A => plainForm w .sub
    | 0x0B => plainForm w .neg
    | 0x0C => plainForm w .negs
    | 0x10 => plainForm w .and
    | 0x11 => plainForm w .or
    | 0x12 => plainForm w .xor
    | 0x13 => plainForm w .not
    | 0x14 => shiftForm w .shl
    | 0x15 => shiftForm w .shr
    | 0x16 => shiftForm w .sar
    | 0x18 => plainForm w .umul64
    | 0x19 => plainForm w .mul
    | 0x1A => plainForm w .muls
    | 0x20 => plainForm w .divu
    | 0x21 => plainForm w .remu
    | 0x22 => plainForm w .divmodu
    | 0x23 => plainForm w .divs
    | 0x24 => plainForm w .rems
    | 0x25 => plainForm w .divmods
    | 0x28 => plainForm w .cmpu
    | 0x29 => plainForm w .cmps
    | 0x2A => plainForm w .sgn
    | 0x2B => plainForm w .abs
    | 0x2C => plainForm w .uabs
    | 0x30 => convertForm w .sextB .sextH .sextW .sextD
    | 0x31 => convertForm w .zextB .zextH .zextW .zextD
    | 0x32 => convertForm w .narsB .narsH .narsW .narsD
    | 0x33 => convertForm w .naruB .naruH .naruW .naruD
    | _ => .illegal .unassignedOpcode

/-- The `OP` field of a command (30_encoding.md R60). -/
def Instr.opcode : Instr → BitVec 8
  | .clz64 => 0x01#8
  | .fls => 0x02#8
  | .flsc => 0x03#8
  | .add => 0x08#8
  | .addc => 0x09#8
  | .sub => 0x0A#8
  | .neg => 0x0B#8
  | .negs => 0x0C#8
  | .and => 0x10#8
  | .or => 0x11#8
  | .xor => 0x12#8
  | .not => 0x13#8
  | .shl _ => 0x14#8
  | .shr _ => 0x15#8
  | .sar _ => 0x16#8
  | .umul64 => 0x18#8
  | .mul => 0x19#8
  | .muls => 0x1A#8
  | .divu => 0x20#8
  | .remu => 0x21#8
  | .divmodu => 0x22#8
  | .divs => 0x23#8
  | .rems => 0x24#8
  | .divmods => 0x25#8
  | .cmpu => 0x28#8
  | .cmps => 0x29#8
  | .sgn => 0x2A#8
  | .abs => 0x2B#8
  | .uabs => 0x2C#8
  | .sextB => 0x30#8
  | .sextH => 0x30#8
  | .sextW => 0x30#8
  | .sextD => 0x30#8
  | .zextB => 0x31#8
  | .zextH => 0x31#8
  | .zextW => 0x31#8
  | .zextD => 0x31#8
  | .narsB => 0x32#8
  | .narsH => 0x32#8
  | .narsW => 0x32#8
  | .narsD => 0x32#8
  | .naruB => 0x33#8
  | .naruH => 0x33#8
  | .naruW => 0x33#8
  | .naruD => 0x33#8

/-- The `W` field of a command (30_encoding.md R58, R60): 0 for every command outside the convert group (R66). -/
def Instr.widthCode : Instr → BitVec 2
  | .clz64 => 0#2
  | .fls => 0#2
  | .flsc => 0#2
  | .add => 0#2
  | .addc => 0#2
  | .sub => 0#2
  | .neg => 0#2
  | .negs => 0#2
  | .and => 0#2
  | .or => 0#2
  | .xor => 0#2
  | .not => 0#2
  | .shl _ => 0#2
  | .shr _ => 0#2
  | .sar _ => 0#2
  | .umul64 => 0#2
  | .mul => 0#2
  | .muls => 0#2
  | .divu => 0#2
  | .remu => 0#2
  | .divmodu => 0#2
  | .divs => 0#2
  | .rems => 0#2
  | .divmods => 0#2
  | .cmpu => 0#2
  | .cmps => 0#2
  | .sgn => 0#2
  | .abs => 0#2
  | .uabs => 0#2
  | .sextB => 0#2
  | .sextH => 1#2
  | .sextW => 2#2
  | .sextD => 3#2
  | .zextB => 0#2
  | .zextH => 1#2
  | .zextW => 2#2
  | .zextD => 3#2
  | .narsB => 0#2
  | .narsH => 1#2
  | .narsW => 2#2
  | .narsD => 3#2
  | .naruB => 0#2
  | .naruH => 1#2
  | .naruW => 2#2
  | .naruD => 3#2

/-- The `SHAMT` field of a command (30_encoding.md R57): 0 for every command that is no shift (R66). -/
def Instr.shamt : Instr → BitVec 7
  | .clz64 => 0#7
  | .fls => 0#7
  | .flsc => 0#7
  | .add => 0#7
  | .addc => 0#7
  | .sub => 0#7
  | .neg => 0#7
  | .negs => 0#7
  | .and => 0#7
  | .or => 0#7
  | .xor => 0#7
  | .not => 0#7
  | .shl n => n
  | .shr n => n
  | .sar n => n
  | .umul64 => 0#7
  | .mul => 0#7
  | .muls => 0#7
  | .divu => 0#7
  | .remu => 0#7
  | .divmodu => 0#7
  | .divs => 0#7
  | .rems => 0#7
  | .divmods => 0#7
  | .cmpu => 0#7
  | .cmps => 0#7
  | .sgn => 0#7
  | .abs => 0#7
  | .uabs => 0#7
  | .sextB => 0#7
  | .sextH => 0#7
  | .sextW => 0#7
  | .sextD => 0#7
  | .zextB => 0#7
  | .zextH => 0#7
  | .zextW => 0#7
  | .zextD => 0#7
  | .narsB => 0#7
  | .narsH => 0#7
  | .narsW => 0#7
  | .narsD => 0#7
  | .naruB => 0#7
  | .naruH => 0#7
  | .naruW => 0#7
  | .naruD => 0#7

/-- The word with the given fields and `RSV = 0` (30_encoding.md R56). -/
def packWord (op : BitVec 8) (shamt : BitVec 7) (width : BitVec 2) : CmdWord :=
  0#15 ++ width ++ shamt ++ op

/-- The command word of a command (30_encoding.md R56, R60, R66). -/
def encode (i : Instr) : CmdWord := packWord i.opcode i.shamt i.widthCode

/-- The opcodes of 30_encoding.md R60. -/
def assignedOpcodes : List (BitVec 8) :=
  [0x01#8, 0x02#8, 0x03#8] ++ [0x08#8, 0x09#8, 0x0A#8, 0x0B#8, 0x0C#8] ++
  [0x10#8, 0x11#8, 0x12#8, 0x13#8, 0x14#8, 0x15#8, 0x16#8] ++ [0x18#8, 0x19#8, 0x1A#8] ++
  [0x20#8, 0x21#8, 0x22#8, 0x23#8, 0x24#8, 0x25#8] ++ [0x28#8, 0x29#8, 0x2A#8, 0x2B#8, 0x2C#8] ++
  [0x30#8, 0x31#8, 0x32#8, 0x33#8]

/-- `OP` is SHL, SHR or SAR (30_encoding.md R60). -/
def isShiftOpcode (op : BitVec 8) : Bool := op == 0x14#8 || op == 0x15#8 || op == 0x16#8

/-- `OP` is SEXT, ZEXT, NARS or NARU (30_encoding.md R60). -/
def isConvertOpcode (op : BitVec 8) : Bool := op == 0x30#8 || op == 0x31#8 || op == 0x32#8 || op == 0x33#8

/-- None of the four conditions of 30_encoding.md R61 holds. -/
def legalWord (w : CmdWord) : Bool :=
  rsvField w == 0#15 && assignedOpcodes.contains (opField w)
    && (shamtField w == 0#7 || isShiftOpcode (opField w))
    && (widthField w == 0#2 || isConvertOpcode (opField w))

/-- The instruction the decoder reads from the bits `w` of a table row `nbits` wide; every bit above `nbits` is 0. A word
is one 32-bit value on `CMD_IN` (30_encoding.md R55), so there is no byte order to choose. -/
def decodeTableWord (nbits w : Nat) : Option Instr :=
  (decode (BitVec.ofNat 32 (w % 2 ^ nbits))).instr?

end Sys2Proof
end

