-- ==== Sys2Proof/Machine/Handshake.lean ====
section
/-! DEFINITION. What one rising edge of CLK does apart from completing a command: reset (70_reset_and_hazards.md R190, R191),
acceptance (10_state.md R31), an edge on which the command in flight goes on (R32, R33). -/

namespace Sys2Proof.Machine

/-- What an edge after the end of the schedule reads: RST = 0, START = 0 (log entry 2). -/
def PortIn.idle : PortIn := { rst := false, start := false, cmdIn := 0#32, aIn := 0#128, bIn := 0#128 }

/-- The input ports at the next edge. -/
def State.port (s : State) : PortIn := s.inputs.headD PortIn.idle

/-- The schedule moves to the edge after the next. -/
def State.advance (s : State) : State := { s with inputs := s.inputs.tail }

/-- "`RES`, `RES2`, `C` and `ERR` are unspecified from this edge until completion" (10_state.md R31), and so are the
divider's working values (R30): each takes a free value, fresh at every edge (log entries 5 and 7). -/
def State.unspecified (s : State) : State :=
  { s with
    res := Config.freeRes s.free, res2 := Config.freeRes2 s.free
    c := Config.freeCarry s.free, err := Config.freeErr s.free
    div := { dividend := Config.freeDividend s.free, quotient := Config.freeQuotient s.free
             divisor := Config.freeDivisor s.free, count := Config.freeCount s.free }
    free := s.free + 1 }

/-- A command of the divide family (44_divide.md). -/
def isDivide : Instr → Bool
  | .divu | .remu | .divmodu | .divs | .rems | .divmods => true
  | .clz64 | .fls | .flsc | .add | .addc | .sub | .neg | .negs | .and | .or | .xor | .not => false
  | .shl _ | .shr _ | .sar _ | .umul64 | .mul | .muls | .cmpu | .cmps | .sgn | .abs | .uabs => false
  | .sextB | .sextH | .sextW | .sextD | .zextB | .zextH | .zextW | .zextD => false
  | .narsB | .narsH | .narsW | .narsD | .naruB | .naruH | .naruW | .naruD => false

/-- `LAT(op, A, B) − 1`: only the divide family's depends on the operands (00_scope.md R7, 70_reset_and_hazards.md R199;
log entry 4). -/
def waitCycles (w : CmdWord) (a b : Data) : Nat :=
  match decode w with
  | .cmd i => if isDivide i then Config.divideExtraCycles w a b else Config.extraCycles w
  | .illegal _ => Config.extraCycles w

/-- `LAT(op, A, B)`, at least 1 (00_scope.md R7, 10_state.md R32). -/
def latency (w : CmdWord) (a b : Data) : Nat := waitCycles w a b + 1

/-- An edge with `RST = 1`: every field of 10_state.md R28 takes its reset value; the divider's working values are not reset
(70_reset_and_hazards.md R190, R191). -/
def State.resetEdge (s : State) : State :=
  { State.reset with div := s.div, free := s.free, inputs := s.inputs }

/-- Acceptance (10_state.md R21, R31). -/
def State.acceptEdge (s : State) (p : PortIn) : State :=
  { s.unspecified with
    cmd := p.cmdIn, opa := p.aIn, opb := p.bIn, busy := true, done := false
    wait := waitCycles p.cmdIn p.aIn p.bIn }

/-- An edge on which the command in flight goes on, whatever `START` is (10_state.md R32, R33). -/
def State.waitEdge (s : State) : State := { s.unspecified with wait := s.wait - 1 }

end Sys2Proof.Machine
end

