-- ==== Sys2Proof/Machine/Edge.lean ====
section
/-! DEFINITION. The completion edge and one whole rising edge of CLK (10_state.md R31 to R34). -/

namespace Sys2Proof.Machine

/-- `exec(CMD, OPA, OPB)` of 10_state.md R34, written into the state: the latched word is decoded first, and an illegal one
raises IllegalCommand whatever the operands (30_encoding.md R61, 60_exceptions.md R170). -/
def respond (s : State) : Result :=
  match decode s.cmd with
  | .cmd i => exec i s
  | .illegal _ => .next (s.raise .illegalCommand)

/-- One rising edge of CLK with the levels `p` on the input ports: reset first (70_reset_and_hazards.md R190), then the
command in flight (10_state.md R32, R33), then acceptance (R31). With none of the three the block holds everything
(60_exceptions.md R180). -/
def clockEdge (p : PortIn) (s : State) : Result :=
  if p.rst then .next s.resetEdge
  else if s.busy then
    if s.wait = 0 then respond s else .next s.waitEdge
  else if p.start then .next (s.acceptEdge p)
  else .next s

/-- The state of a command accepted with the word `w` and the operands the latches hold, one edge before it completes, with
no reset at that edge (log entry 3). -/
def State.loaded (s : State) (w : CmdWord) : State :=
  { s with cmd := w, busy := true, done := false, wait := 0, inputs := PortIn.idle :: s.inputs }

end Sys2Proof.Machine
end

