-- ==== Sys2Proof/Machine/Step.lean ====
section
/-! DEFINITION. One step: one rising edge of CLK with the input levels the schedule holds for it. -/

namespace Sys2Proof.Machine

/-- One rising edge of CLK (10_state.md R20, R31 to R33, 70_reset_and_hazards.md R190). -/
def step (s : State) : Host.Outcome State Fault Refusal := clockEdge s.port s.advance

/-- `s` with the table row's word in the command latch, accepted, so that the next step completes it (log entry 3). The
block has no program counter and fetches nothing (10_state.md R29): this stands for the acceptance edge of R31. -/
def State.withFetchWord (s : State) (nbits w : Nat) : State :=
  s.loaded (BitVec.ofNat 32 (w % 2 ^ nbits))

end Sys2Proof.Machine
end

