-- ==== Sys2Proof/WellFormed.lean ====
section
/-! DEFINITION. What is checked before a command is encoded: the shape of a written line, the range of its operand values and
the range of its amount (30_encoding.md R63: "An assembler refuses a value outside −2^127..2^128−1 and an amount outside
0..127"). A term of Instr needs no check of its own: its one operand is a 7-bit amount, so every amount of R57 is a term and
no other is. -/

namespace Sys2Proof

/-- The three shapes of a written command (30_encoding.md R60 column "Reads", R63). -/
inductive Shape where
  | unary | binary | shift
  deriving DecidableEq, Repr

/-- Which operands a command reads and whether it takes an amount (30_encoding.md R60). -/
def Instr.shape : Instr → Shape
  | .clz64 => .unary
  | .fls => .unary
  | .flsc => .unary
  | .add => .binary
  | .addc => .binary
  | .sub => .binary
  | .neg => .unary
  | .negs => .unary
  | .and => .binary
  | .or => .binary
  | .xor => .binary
  | .not => .unary
  | .shl _ => .shift
  | .shr _ => .shift
  | .sar _ => .shift
  | .umul64 => .binary
  | .mul => .binary
  | .muls => .binary
  | .divu => .binary
  | .remu => .binary
  | .divmodu => .binary
  | .divs => .binary
  | .rems => .binary
  | .divmods => .binary
  | .cmpu => .binary
  | .cmps => .binary
  | .sgn => .unary
  | .abs => .unary
  | .uabs => .unary
  | .sextB => .unary
  | .sextH => .unary
  | .sextW => .unary
  | .sextD => .unary
  | .zextB => .unary
  | .zextH => .unary
  | .zextW => .unary
  | .zextD => .unary
  | .narsB => .unary
  | .narsH => .unary
  | .narsW => .unary
  | .narsD => .unary
  | .naruB => .unary
  | .naruH => .unary
  | .naruW => .unary
  | .naruD => .unary

/-- The bound of 30_encoding.md R57 on the amount of a shift. It holds of every term of Instr. -/
def Instr.wf : Instr → Bool
  | .shl n | .shr n | .sar n => decide (n.toNat ≤ 127)
  | .clz64 => true
  | .fls => true
  | .flsc => true
  | .add => true
  | .addc => true
  | .sub => true
  | .neg => true
  | .negs => true
  | .and => true
  | .or => true
  | .xor => true
  | .not => true
  | .umul64 => true
  | .mul => true
  | .muls => true
  | .divu => true
  | .remu => true
  | .divmodu => true
  | .divs => true
  | .rems => true
  | .divmods => true
  | .cmpu => true
  | .cmps => true
  | .sgn => true
  | .abs => true
  | .uabs => true
  | .sextB => true
  | .sextH => true
  | .sextW => true
  | .sextD => true
  | .zextB => true
  | .zextH => true
  | .zextW => true
  | .zextD => true
  | .narsB => true
  | .narsH => true
  | .narsW => true
  | .narsD => true
  | .naruB => true
  | .naruH => true
  | .naruW => true
  | .naruD => true

/-- A decimal value lies in −2^127..2^128−1 and a hexadecimal pattern has 1 to 32 digits (30_encoding.md R63). -/
def AsmOperand.wf : AsmOperand → Bool
  | .decimal v => decide (-2 ^ 127 ≤ v ∧ v ≤ 2 ^ 128 - 1)
  | .hex digits => decide (1 ≤ digits.length ∧ digits.length ≤ 32)
  | .named _ => true

/-- A line is well formed: its mnemonic has the line's shape, its operands are in range, its amount is in 0..127
(30_encoding.md R63). R63 names only the two ranges as grounds for a refusal: that a line with an operand its mnemonic does not
read, or without one it reads, is not well formed is the model's choice (DESIGN CHOICE, log entry 17). -/
def Line.wf : AsmLine → Bool
  | .unary i a => i.shape == .unary && a.wf
  | .binary i a b => i.shape == .binary && a.wf && b.wf
  | .shift _ a amount => a.wf && decide (0 ≤ amount ∧ amount ≤ 127)
  | .inc a => a.wf
  | .dec a => a.wf
  | .mov a => a.wf
  | .clr => true
  | .cmpz a => a.wf

end Sys2Proof
end

