-- ==== Sys2Proof/Machine/Assembler.lean ====
section
/-! DEFINITION. The assembler of 30_encoding.md R63 to R66: from a well-formed line to the command word and the operand
values to present on `A_IN` and `B_IN`. -/

namespace Sys2Proof.Machine

/-- The pattern of a named constant (00_scope.md R12). -/
def namedValue : NamedConst → Data
  | .zero => zero
  | .umax => umax
  | .smin => smin
  | .smax => smax
  | .one => one
  | .mone => mone

/-- The pattern an operand stands for (30_encoding.md R63): `enc(v)`, the digits read as a number, or the constant. -/
def operandValue : AsmOperand → Data
  | .decimal v => enc v
  | .hex digits => digits.foldl (fun x d => (x <<< 4) ||| d.setWidth 128) 0#128
  | .named c => namedValue c

/-- The shift command of a mnemonic (30_encoding.md R60). -/
def shiftInstr : ShiftMnemonic → BitVec 7 → Instr
  | .shl => .shl
  | .shr => .shr
  | .sar => .sar

/-- What a host presents for one command. An operand the line does not write is `none`: the command ignores that port
(30_encoding.md R59). -/
structure Command where
  word : CmdWord
  a : Option Data
  b : Option Data
  deriving DecidableEq, Repr

/-- The command a well-formed line stands for (30_encoding.md R63, R65). -/
def expandLine : AsmLine → Command
  | .unary i a => { word := encode i, a := some (operandValue a), b := none }
  | .binary i a b => { word := encode i, a := some (operandValue a), b := some (operandValue b) }
  | .shift m a amount =>
    { word := encode (shiftInstr m (BitVec.ofInt 7 amount)), a := some (operandValue a), b := none }
  | .inc a => { word := encode .add, a := some (operandValue a), b := some (enc 1) }
  | .dec a => { word := encode .sub, a := some (operandValue a), b := some (enc 1) }
  | .mov a => { word := encode .or, a := some (operandValue a), b := some (enc 0) }
  | .clr => { word := encode .xor, a := some (enc 0), b := some (enc 0) }
  | .cmpz a => { word := encode .cmps, a := some (operandValue a), b := some (enc 0) }

/-- The assembler: it refuses a line that is not well formed (30_encoding.md R63). -/
def assemble (l : AsmLine) : Option Command := if l.wf then some (expandLine l) else none

end Sys2Proof.Machine
end

