-- ==== Sys2Proof/Machine/HostProgram.lean ====
section
/-! DEFINITION. The host's side of a host program (30_encoding.md R64): one statement run over the block. No step of the
block uses it. A host's own computations between commands ("emit digit d", `i := i − 1`) are no form of R64 and are not here
(log entry 12). -/

namespace Sys2Proof.Machine

/-- A host running a program: the statement it is at, its variables, the block it drives. -/
structure HostState where
  line : Nat
  vars : List (Nat × Data)
  block : State
  deriving DecidableEq, Repr

/-- Why a host program goes no further. -/
inductive HostStop where
  /-- There is no statement left. -/
  | ended
  /-- The assembler refuses the line, or a variable is read that nothing has written. -/
  | refusedLine
  /-- No statement of the program is the label. -/
  | unknownLabel
  /-- The host would assert START while BUSY = 1, which it "must not" (70_reset_and_hazards.md R196, log entry 19): the block
  would ignore the command and no response for it would ever appear (10_state.md R33). -/
  | issuedWhileBusy
  /-- The block stops (60_exceptions.md R169). -/
  | blockFault (f : Fault)
  /-- The block refuses; no command does. -/
  | blockRefusal (r : Refusal)
  deriving DecidableEq, Repr

/-- The value of a host variable, if one was stored. -/
def HostState.variable (h : HostState) (v : Nat) : Option Data := h.vars.lookup v

/-- Storing a value into a host variable, in front of the older ones. -/
def HostState.store (h : HostState) (v : Nat) (x : Data) : HostState := { h with vars := (v, x) :: h.vars }

/-- The next statement. -/
def HostState.advance (h : HostState) : HostState := { h with line := h.line + 1 }

/-- An operand as the assembler reads it: a variable is written as the unsigned number it holds. -/
def HostState.operand (h : HostState) : HostOperand → Option AsmOperand
  | .value a => some a
  | .variable v => (h.variable v).map fun x => .decimal (uval x)

/-- A line with its host variables replaced by their values. -/
def HostState.fill (h : HostState) : Line HostOperand → Option AsmLine
  | .unary i a => (h.operand a).map (.unary i ·)
  | .binary i a b => (h.operand a).bind fun x => (h.operand b).map (.binary i x ·)
  | .shift m a amount => (h.operand a).map (.shift m · amount)
  | .inc a => (h.operand a).map .inc
  | .dec a => (h.operand a).map .dec
  | .mov a => (h.operand a).map .mov
  | .clr => some .clr
  | .cmpz a => (h.operand a).map .cmpz

/-- What the host drives to issue a command: a port the command does not read takes a free value (30_encoding.md R59). -/
def startPort (c : Command) (index : Nat) : PortIn :=
  { rst := false, start := true, cmdIn := c.word, aIn := c.a.getD (Config.freeA index)
    bIn := c.b.getD (Config.freeB index) }

/-- Issuing a command to an idle block and waiting for `DONE = 1` (30_encoding.md R64, 70_reset_and_hazards.md R195): the
acceptance and the completion edge. The edges between them change free values alone (10_state.md R31, R33). -/
def issue (c : Command) (s : State) : Result :=
  respond { s.acceptEdge (startPort c s.free) with wait := 0 }

/-- Issuing the command of a line to a block that is not busy and handing the answering state to the statement
(30_encoding.md R64, 70_reset_and_hazards.md R196). -/
def HostState.run (h : HostState) (l : Line HostOperand) (use : State → HostState) : Except HostStop HostState :=
  match (h.fill l).bind assemble with
  | none => .error .refusedLine
  | some c =>
    if h.block.busy then .error .issuedWhileBusy
    else match issue c h.block with
      | .next t => .ok (use t)
      | .fault f => .error (.blockFault f)
      | .refused r => .error (.blockRefusal r)

/-- Going to a label. Of several statements with the label it goes to the first, and where there is none the host stops: R64
is silent on both (DESIGN CHOICE, log entry 16). -/
def HostState.jump (program : List HostStmt) (h : HostState) (n : Nat) : Except HostStop HostState :=
  match program.findIdx? (· == .label n) with
  | some k => .ok { h with line := k }
  | none => .error .unknownLabel

/-- A condition on the host's variables; `none` where the variable was never stored. The constant is not checked against the
ranges of R63: it is compared by its pattern, mod 2^128 (DESIGN CHOICE, log entry 18). -/
def HostState.holds (h : HostState) : HostCond → Option Bool
  | .eq v a => (h.variable v).map (· == operandValue a)
  | .ne v a => (h.variable v).map (· != operandValue a)

/-- One statement of a host program (30_encoding.md R64). `q, r := OP args` stores RES first and RES2 after it, so with one
variable in both places RES2 stays: R64 is silent on it (DESIGN CHOICE, log entry 15). -/
def hostStep (program : List HostStmt) (h : HostState) : Except HostStop HostState :=
  match program[h.line]? with
  | none => .error .ended
  | some (.assign v l) => h.run l fun t => { (h.store v t.res).advance with block := t }
  | some (.assignPair q r l) => h.run l fun t => { ((h.store q t.res).store r t.res2).advance with block := t }
  | some (.readC v) => .ok (h.store v (enc h.block.c.toNat)).advance
  | some (.readErr v) => .ok (h.store v (enc h.block.err.toNat)).advance
  | some (.label _) => .ok h.advance
  | some (.ifGoto cond n) =>
    match h.holds cond with
    | none => .error .refusedLine
    | some true => h.jump program n
    | some false => .ok h.advance
  | some (.goto n) => h.jump program n

end Sys2Proof.Machine
end

