-- ==== Sys2Proof/Machine/Algorithms.lean ====
section
/-! DEFINITION. The methods the spec gives beside its rules and marks informative: each "must give the same result as the
pseudocode" (00_scope.md R16). No meaning uses one; statements say that each agrees with its rule. -/

namespace Sys2Proof.Machine

/-- One probe of the narrowing search: if the top `k` bits are 0, count them and shift them out (40_bit_primitives.md R81). -/
def clzProbe (k : Nat) (p : Nat × Word64) : Nat × Word64 :=
  if p.2 >>> (64 - k) = 0 then (p.1 + k, p.2 <<< k) else p

/-- The 16-entry table of 40_bit_primitives.md R81. -/
def clzTable : List Nat := [4, 3, 2, 2, 1, 1, 1, 1, 0, 0, 0, 0, 0, 0, 0, 0]

/-- The branchless narrowing search for `clz64` (40_bit_primitives.md R81). -/
def clzSearch (w : Word64) : Nat :=
  let p := clzProbe 4 (clzProbe 8 (clzProbe 16 (clzProbe 32 (0, w))))
  p.1 + clzTable.getD (p.2 >>> 60).toNat 0

/-- The word-level addition of 41_add_sub.md R90: carry into `hi` when the summed `lo` is below `OPA.lo`. -/
def addWords (a b : Data) : Data :=
  let l := lo a + lo b
  ofWords (hi a + hi b + if l.toNat < (lo a).toNat then 1 else 0) l

/-- The 32-bit-split multiply of 43_multiply.md R117. -/
def mulSplit (a b : Data) : Data :=
  let a32 := lo a >>> 32
  let a00 := lo a &&& 0xFFFFFFFF#64
  let b32 := lo b >>> 32
  let b00 := lo b &&& 0xFFFFFFFF#64
  let r := ofWords (hi a * lo b + lo a * hi b + a32 * b32) (a00 * b00)
  let r := enc (uval r + (a32 * b00).toNat * 2 ^ 32)
  enc (uval r + (a00 * b32).toNat * 2 ^ 32)

/-- One iteration of the shift-subtract loop (44_divide.md R126). -/
def divIterate (d : DivWork) : DivWork :=
  if d.divisor.toNat ≤ d.dividend.toNat then
    { dividend := d.dividend - d.divisor, quotient := d.quotient <<< 1 ||| 1#128
      divisor := d.divisor >>> 1, count := d.count - 1 }
  else
    { dividend := d.dividend, quotient := d.quotient <<< 1
      divisor := d.divisor >>> 1, count := d.count - 1 }

/-- `n` iterations of the loop. -/
def divRun : Nat → DivWork → DivWork
  | 0, d => d
  | n + 1, d => divRun n (divIterate d)

/-- The loop's start for a dividend above a nonzero divisor: the divisor left-aligned, `shift + 1` iterations to run
(44_divide.md R126). -/
def divStart (a b : Data) : DivWork :=
  { dividend := a, quotient := 0#128, divisor := b <<< (flsIndex a - flsIndex b)
    count := BitVec.ofNat 8 (flsIndex a - flsIndex b + 1) }

/-- The shift-subtract divider with its fast paths, `(quotient, remainder)` (44_divide.md R126). -/
def shiftSubtract (a b : Data) : Data × Data :=
  if b.toNat > a.toNat then (zero, a)
  else if b = a then (one, zero)
  else if a = zero then (zero, zero)
  else
    let d := divRun (divStart a b).count.toNat (divStart a b)
    (d.quotient, d.dividend)

/-- The lexicographic comparison of `(hi, lo)` (45_compare_sign.md R140). -/
def compareWords (a b : Data) : Int :=
  if (hi a).toNat < (hi b).toNat then -1
  else if (hi a).toNat > (hi b).toNat then 1
  else if (lo a).toNat < (lo b).toNat then -1
  else if (lo a).toNat > (lo b).toNat then 1
  else 0

/-- HPTS's signed comparison: both zero, then opposite signs, then the raw words (45_compare_sign.md R141). -/
def compareSigned (a b : Data) : Int :=
  if a = zero ∧ b = zero then 0
  else if a.msb ∧ ¬ b.msb then -1
  else if ¬ a.msb ∧ b.msb then 1
  else compareWords a b

end Sys2Proof.Machine
end

