-- ==== Sys2Proof/Machine/Timing.lean ====
section
/-! DEFINITION. The reference latencies of 70_reset_and_hazards.md R199, "informative only": no step uses them. -/

namespace Sys2Proof.Machine

/-- The loop count `k` of the shift-subtract divider on two magnitudes, 0 on a zero divisor and on a fast path
(44_divide.md R126, 70_reset_and_hazards.md R199). -/
def loopCount (ua ub : Data) : Nat :=
  if ub = zero ∨ ub.toNat > ua.toNat ∨ ub = ua then 0 else flsIndex ua - flsIndex ub + 1

/-- The reference `LAT` of a command word on two operands (70_reset_and_hazards.md R199). -/
def referenceLatency (w : CmdWord) (a b : Data) : Nat :=
  match decode w with
  | .cmd .divu | .cmd .remu | .cmd .divmodu => 1 + loopCount a b
  | .cmd .divs | .cmd .rems | .cmd .divmods => 1 + loopCount (magnitude a) (magnitude b)
  | _ => 1

end Sys2Proof.Machine
end

