-- ==== Sys2Proof/Safety.lean ====
section
/-! DEFINITION. What counts as a safe run, in the terms claims use: the host's two obligations (70_reset_and_hazards.md R195,
R196), FLS's precondition (40_bit_primitives.md R82), and the invariant of the block. -/

namespace Sys2Proof.Machine

/-- The host asserts START while BUSY at the coming edge: "A host must not assert `START` while `BUSY = 1`"
(70_reset_and_hazards.md R196; log entry 9). -/
def State.issuesWhileBusy (s : State) : Bool := s.busy && s.port.start && !s.port.rst

/-- RES, RES2, C and ERR are the response of the last accepted command (70_reset_and_hazards.md R195). -/
def State.responseValid (s : State) : Bool := !s.busy && s.done

/-- What a host may rely on when it reads the outputs: the response, or nothing (70_reset_and_hazards.md R195). -/
def State.readResponse (s : State) : Option Response :=
  if s.responseValid then some { res := s.res, res2 := s.res2, c := s.c, err := s.err } else none

/-- The command in flight meets FLS's precondition `OPA ≠ ZERO` (40_bit_primitives.md R82). -/
def State.flsPrecondition (s : State) : Bool := !(s.busy && decode s.cmd == .cmd .fls && s.opa == zero)

/-- `n` steps, stopping at the first fault or refusal. -/
def runSteps : Nat → State → Result
  | 0, s => .next s
  | n + 1, s =>
    match step s with
    | .next t => runSteps n t
    | .fault r => .fault r
    | .refused r => .refused r

/-- The next `n` steps run, the host never issues while busy, and no FLS is in flight with a zero operand. -/
def safeRun : Nat → State → Bool
  | 0, _ => true
  | n + 1, s =>
    !s.issuesWhileBusy && s.flsPrecondition &&
      match step s with
      | .next t => safeRun n t
      | .fault _ => false
      | .refused _ => false

/-- The invariant of the block: "`BUSY` and `DONE` are never both 1", and DONE is "1 when `RES`, `RES2`, `C`, `ERR` hold the
response of the last accepted command" (10_state.md R27): answering the latched command again would change nothing. -/
def State.Inv (s : State) : Prop :=
  ¬ (s.busy = true ∧ s.done = true) ∧ (s.done = true → respond s = .next s)

end Sys2Proof.Machine
end

