-- ==== Sys2Proof/Certificates/Slice0/Obligations.lean ====
section
/-! DEFINITION. The statements for the provers, each from the rule of spec/ its docstring names. Results of commands are written
with numbers and BitVec operations, so that a statement can be read beside the spec; the model's own functions stand in a
statement only where the statement is about them (the other methods, the assembler, the byte lanes, `leadingZeros` as clz128). -/

open Sys2Proof Sys2Proof.Machine

/-- The response `complete(r, r2, c)` of 60_exceptions.md R167, spelled out: RES, RES2, C, ERR = 0, BUSY = 0, DONE = 1 are
written and every other field of the state is as before. That the divider's working values, the count of edges to wait and the
index of free values are among the fields kept is the model's choice (log entries 7, 11 and 6). -/
def Sys2Proof.Statements.succeeds (s : State) (r r2 : Data) (c : Bool) : Host.Outcome State Fault Refusal :=
  .next { s with res := r, res2 := r2, c := c, err := 0#3, busy := false, done := true }

/-- The response `raise E` of 60_exceptions.md R168 for an error code, spelled out: RES and RES2 are ZERO, C is 0, ERR is the
code, BUSY = 0, DONE = 1, and every other field of the state is as before, with the model's choice that `succeeds` names. -/
def Sys2Proof.Statements.raises (s : State) (code : BitVec 3) : Host.Outcome State Fault Refusal :=
  .next { s with res := 0#128, res2 := 0#128, c := false, err := code, busy := false, done := true }

/-- SMIN as a literal (00_scope.md R12). -/
def Sys2Proof.Statements.minValue : Data := 0x80000000000000000000000000000000#128

/-- MONE as a literal (00_scope.md R12). -/
def Sys2Proof.Statements.minusOne : Data := 0xFFFFFFFFFFFFFFFFFFFFFFFFFFFFFFFF#128

/-- The three-way result of 45_compare_sign.md as a pattern: enc(−1), enc(1) or enc(0). -/
def Sys2Proof.Statements.ordering (less greater : Prop) [Decidable less] [Decidable greater] : Data :=
  if less then 0xFFFFFFFFFFFFFFFFFFFFFFFFFFFFFFFF#128 else if greater then 1#128 else 0#128

/-- The four conditions of 30_encoding.md R61, in the fields' bit positions (R56) and the opcodes of R60. -/
def Sys2Proof.Statements.illegalBy (w : CmdWord) : Prop :=
  w.extractLsb' 17 15 ≠ 0#15 ∨
  (w.extractLsb' 0 8).toNat ∉
    [0x01, 0x02, 0x03, 0x08, 0x09, 0x0A, 0x0B, 0x0C, 0x10, 0x11, 0x12, 0x13, 0x14, 0x15, 0x16, 0x18, 0x19, 0x1A] ++
    [0x20, 0x21, 0x22, 0x23, 0x24, 0x25, 0x28, 0x29, 0x2A, 0x2B, 0x2C, 0x30, 0x31, 0x32, 0x33] ∨
  (w.extractLsb' 8 7 ≠ 0#7 ∧ (w.extractLsb' 0 8).toNat ∉ [0x14, 0x15, 0x16]) ∨
  (w.extractLsb' 15 2 ≠ 0#2 ∧ (w.extractLsb' 0 8).toNat ∉ [0x30, 0x31, 0x32, 0x33])

/-- The rows of spec/opcode_table.json: mask, match, and the command the row's mnemonic names, of the amount in bits 14:8
where the row leaves these bits open. -/
def Sys2Proof.Statements.tableRows : List (CmdWord × CmdWord × (BitVec 7 → Instr)) :=
  [(0xFFFFFFFF#32, 0x00000001#32, fun _ => .clz64), (0xFFFFFFFF#32, 0x00000002#32, fun _ => .fls),
    (0xFFFFFFFF#32, 0x00000003#32, fun _ => .flsc), (0xFFFFFFFF#32, 0x00000008#32, fun _ => .add),
    (0xFFFFFFFF#32, 0x00000009#32, fun _ => .addc), (0xFFFFFFFF#32, 0x0000000A#32, fun _ => .sub),
    (0xFFFFFFFF#32, 0x0000000B#32, fun _ => .neg), (0xFFFFFFFF#32, 0x0000000C#32, fun _ => .negs),
    (0xFFFFFFFF#32, 0x00000010#32, fun _ => .and), (0xFFFFFFFF#32, 0x00000011#32, fun _ => .or),
    (0xFFFFFFFF#32, 0x00000012#32, fun _ => .xor), (0xFFFFFFFF#32, 0x00000013#32, fun _ => .not)] ++
   [(0xFFFF80FF#32, 0x00000014#32, .shl), (0xFFFF80FF#32, 0x00000015#32, .shr),
    (0xFFFF80FF#32, 0x00000016#32, .sar), (0xFFFFFFFF#32, 0x00000018#32, fun _ => .umul64),
    (0xFFFFFFFF#32, 0x00000019#32, fun _ => .mul), (0xFFFFFFFF#32, 0x0000001A#32, fun _ => .muls),
    (0xFFFFFFFF#32, 0x00000020#32, fun _ => .divu), (0xFFFFFFFF#32, 0x00000021#32, fun _ => .remu),
    (0xFFFFFFFF#32, 0x00000022#32, fun _ => .divmodu), (0xFFFFFFFF#32, 0x00000023#32, fun _ => .divs),
    (0xFFFFFFFF#32, 0x00000024#32, fun _ => .rems), (0xFFFFFFFF#32, 0x00000025#32, fun _ => .divmods)] ++
   [(0xFFFFFFFF#32, 0x00000028#32, fun _ => .cmpu), (0xFFFFFFFF#32, 0x00000029#32, fun _ => .cmps),
    (0xFFFFFFFF#32, 0x0000002A#32, fun _ => .sgn), (0xFFFFFFFF#32, 0x0000002B#32, fun _ => .abs),
    (0xFFFFFFFF#32, 0x0000002C#32, fun _ => .uabs), (0xFFFFFFFF#32, 0x00000030#32, fun _ => .sextB),
    (0xFFFFFFFF#32, 0x00008030#32, fun _ => .sextH), (0xFFFFFFFF#32, 0x00010030#32, fun _ => .sextW),
    (0xFFFFFFFF#32, 0x00018030#32, fun _ => .sextD), (0xFFFFFFFF#32, 0x00000031#32, fun _ => .zextB),
    (0xFFFFFFFF#32, 0x00008031#32, fun _ => .zextH), (0xFFFFFFFF#32, 0x00010031#32, fun _ => .zextW)] ++
   [(0xFFFFFFFF#32, 0x00018031#32, fun _ => .zextD), (0xFFFFFFFF#32, 0x00000032#32, fun _ => .narsB),
    (0xFFFFFFFF#32, 0x00008032#32, fun _ => .narsH), (0xFFFFFFFF#32, 0x00010032#32, fun _ => .narsW),
    (0xFFFFFFFF#32, 0x00018032#32, fun _ => .narsD), (0xFFFFFFFF#32, 0x00000033#32, fun _ => .naruB),
    (0xFFFFFFFF#32, 0x00008033#32, fun _ => .naruH), (0xFFFFFFFF#32, 0x00010033#32, fun _ => .naruW),
    (0xFFFFFFFF#32, 0x00018033#32, fun _ => .naruD)]

/-- What 46_convert.md R150 says of one SEXT: the low `n` bits of OPA, read as a signed number, as a 128-bit pattern. -/
def Sys2Proof.Statements.signExtends (i : Instr) (word : CmdWord) (n : Nat) : Prop :=
  decode word = .cmd i ∧
  ∀ s : State, exec i s =
    Statements.succeeds s (BitVec.ofInt 128 (Int.bmod s.opa.toNat (2 ^ n))) 0#128 false

/-- What 46_convert.md R151 says of one ZEXT: the low `n` bits of OPA as an unsigned number. -/
def Sys2Proof.Statements.zeroExtends (i : Instr) (word : CmdWord) (n : Nat) : Prop :=
  decode word = .cmd i ∧
  ∀ s : State, exec i s = Statements.succeeds s (BitVec.ofNat 128 (s.opa.toNat % 2 ^ n)) 0#128 false

/-- What 46_convert.md R152 and R153 say of one narrowing to the range `low..high` of an `n`-bit type. -/
def Sys2Proof.Statements.narrows (i : Instr) (word : CmdWord) (n : Nat) (low high : Int) : Prop :=
  decode word = .cmd i ∧
  ∀ s : State,
    (low ≤ s.opa.toInt ∧ s.opa.toInt ≤ high →
      exec i s = Statements.succeeds s (BitVec.ofNat 128 (s.opa.toNat % 2 ^ n)) 0#128 false) ∧
    (¬ (low ≤ s.opa.toInt ∧ s.opa.toInt ≤ high) → exec i s = Statements.raises s 2#3)

/-- A command of the divide family. -/
def Sys2Proof.Statements.divides (i : Instr) : Prop :=
  i = .divu ∨ i = .remu ∨ i = .divmodu ∨ i = .divs ∨ i = .rems ∨ i = .divmods

/-- The bounds of a NARS or NARU, its `low..high` (46_convert.md R152, R153). -/
def Sys2Proof.Statements.narrowBounds : List (Instr × Int × Int) :=
  [(.narsB, -2 ^ 7, 2 ^ 7 - 1), (.narsH, -2 ^ 15, 2 ^ 15 - 1), (.narsW, -2 ^ 31, 2 ^ 31 - 1),
   (.narsD, -2 ^ 63, 2 ^ 63 - 1), (.naruB, 0, 2 ^ 8 - 1), (.naruH, 0, 2 ^ 16 - 1), (.naruW, 0, 2 ^ 32 - 1),
   (.naruD, 0, 2 ^ 64 - 1)]

/-- The lines of the assembler that carry the operand `a`, in any place (30_encoding.md R63, R65). -/
def Sys2Proof.Statements.carries (l : AsmLine) (a : AsmOperand) : Prop :=
  (∃ i, l = .unary i a) ∨ (∃ i b, l = .binary i a b) ∨ (∃ i b, l = .binary i b a) ∨ (∃ m n, l = .shift m a n) ∨
  l = .inc a ∨ l = .dec a ∨ l = .mov a ∨ l = .cmpz a

/-- The operands 30_encoding.md R63 does not allow: a decimal value outside −2^127..2^128−1, a hexadecimal pattern whose
digits are not 1 to 32. -/
def Sys2Proof.Statements.outOfRange (a : AsmOperand) : Prop :=
  (∃ v : Int, a = .decimal v ∧ (v < -2 ^ 127 ∨ v > 2 ^ 128 - 1)) ∨
  (∃ digits, a = .hex digits ∧ (digits.length < 1 ∨ digits.length > 32))

/-- Two executions of one command give the same response: the same fault, or next states with the same RES, RES2, C, ERR. -/
def Sys2Proof.Statements.sameResponse : Host.Outcome State Fault Refusal → Host.Outcome State Fault Refusal → Prop
  | .next t, .next u => t.res = u.res ∧ t.res2 = u.res2 ∧ t.c = u.c ∧ t.err = u.err ∧ t.busy = u.busy ∧ t.done = u.done
  | .fault f, .fault g => f = g
  | .refused f, .refused g => f = g
  | _, _ => False

open Statements

/-! Reset, handshake, status. -/

/-- 10_state.md R28: every state the table gives a reset value has it in the state after reset. -/
def Obligations.ResetStateHoldsTableValues : Prop :=
  State.reset.cmd = 0x00000000#32 ∧ State.reset.opa = 0#128 ∧ State.reset.opb = 0#128 ∧ State.reset.res = 0#128 ∧
  State.reset.res2 = 0#128 ∧ State.reset.busy = false ∧ State.reset.done = false ∧ State.reset.c = false ∧
  State.reset.err = 0#3

/-- 70_reset_and_hazards.md R190, R191: an edge with RST = 1, whatever START is and whatever is in flight, gives every state of
R28's table its reset value, so no response is held; the divider's working state is not reset (R191), which the model reads
as kept (the model's choice, log entry 7). -/
def Obligations.ResetEdgeResetsTheBlock : Prop :=
  ∀ (s : State) (p : PortIn) (rest : List PortIn), s.inputs = p :: rest → p.rst = true →
    ∃ t, step s = .next t ∧ t.cmd = 0x00000000#32 ∧ t.opa = 0#128 ∧ t.opb = 0#128 ∧ t.res = 0#128 ∧ t.res2 = 0#128 ∧
      t.busy = false ∧ t.done = false ∧ t.c = false ∧ t.err = 0#3 ∧ t.div = s.div

/-- 10_state.md R31: with RST = 0, START = 1 and BUSY = 0 the command is latched, BUSY is 1 and DONE is 0. RES, RES2, C and
ERR are unspecified, so nothing is said of them. -/
def Obligations.AcceptanceLatchesTheCommand : Prop :=
  ∀ (s : State) (p : PortIn) (rest : List PortIn),
    s.inputs = p :: rest → p.rst = false → p.start = true → s.busy = false →
    ∃ t, step s = .next t ∧ t.cmd = p.cmdIn ∧ t.opa = p.aIn ∧ t.opb = p.bIn ∧ t.busy = true ∧ t.done = false

/-- 10_state.md R33, 70_reset_and_hazards.md R197: while BUSY = 1 an edge does the same whatever START, CMD_IN, A_IN and
B_IN are, and while edges remain (State.wait, the model's own count, log entry 11) the latches and BUSY are kept. -/
def Obligations.StartWhileBusyIsIgnored : Prop :=
  (∀ (s : State) (p q : PortIn) (rest : List PortIn), s.busy = true → p.rst = false → q.rst = false →
    step { s with inputs := p :: rest } = step { s with inputs := q :: rest }) ∧
  (∀ (s : State) (p : PortIn) (rest : List PortIn), s.inputs = p :: rest → p.rst = false → s.busy = true → s.wait ≠ 0 →
    ∃ t, step s = .next t ∧ t.cmd = s.cmd ∧ t.opa = s.opa ∧ t.opb = s.opb ∧ t.busy = true ∧ t.done = s.done)

/-- 60_exceptions.md R180, 20_memory.md R47: through any number of edges without reset and without START an idle block holds
everything, so the outputs can be read any number of times. For `n` above the length of the schedule it rests on what an edge
past the end reads (the model's choice, log entry 2). -/
def Obligations.IdleBlockHoldsItsRegisters : Prop :=
  ∀ (n : Nat) (s : State), s.busy = false →
    (∀ q ∈ s.inputs.take n, q.rst = false ∧ q.start = false) →
    runSteps n s = .next { s with inputs := s.inputs.drop n }

/-- 10_state.md R32, R34: on the completion edge of a command whose latched word decodes to `i`, the step is exec of `i`, with
the schedule moved on by one edge and nothing else added. -/
def Obligations.StepRunsTheDecodedCommand : Prop :=
  ∀ (s : State) (p : PortIn) (rest : List PortIn) (i : Instr),
    s.inputs = p :: rest → p.rst = false → s.busy = true → s.wait = 0 → decode s.cmd = .cmd i →
    step s = exec i { s with inputs := rest }

/-- The same with nothing scheduled, which reads as an idle edge (the model's choice, log entry 2). -/
def Obligations.StepRunsTheDecodedCommandUnscheduled : Prop :=
  ∀ (s : State) (i : Instr), s.inputs = [] → s.busy = true → s.wait = 0 → decode s.cmd = .cmd i → step s = exec i s

/-- 10_state.md R27: the layout of STATUS. -/
def Obligations.StatusWordLayout : Prop :=
  ∀ s : State, s.statusOut.getLsbD 0 = s.busy ∧ s.statusOut.getLsbD 1 = s.done ∧ s.statusOut.getLsbD 2 = s.c ∧
    s.statusOut.extractLsb' 3 3 = s.err ∧ s.statusOut.extractLsb' 6 26 = 0#26

/-! Encoding. -/

/-- 30_encoding.md R61, R170 of 60_exceptions.md: a word the four conditions call illegal is accepted like any other and
completes with IllegalCommand (6) whatever the operands; any other word decodes to a command. -/
def Obligations.IllegalWordsRaiseIllegalCommand : Prop :=
  (∀ s : State, illegalBy s.cmd → respond s = raises s 6#3) ∧
  (∀ (s : State) (p : PortIn) (rest : List PortIn), illegalBy p.cmdIn → s.inputs = p :: rest → p.rst = false →
    p.start = true → s.busy = false → ∃ t, step s = .next t ∧ t.cmd = p.cmdIn ∧ t.busy = true ∧ t.done = false) ∧
  (∀ w : CmdWord, ¬ illegalBy w → ∃ i, decode w = .cmd i)

/-- 30_encoding.md R62, last sentence: a word that decodes to a command matches exactly one row of the opcode table, and that
row names the command; a word the decoder rejects matches none; and it rejects exactly the words of R61's four conditions. -/
def Obligations.OneTableRowPerLegalWord : Prop :=
  ∀ w : CmdWord,
    (∀ i, decode w = .cmd i → tableRows.countP (fun r => w &&& r.1 == r.2.1) = 1 ∧
      ∃ r ∈ tableRows, w &&& r.1 = r.2.1 ∧ r.2.2 (w.extractLsb' 8 7) = i) ∧
    (∀ why, decode w = .illegal why → tableRows.countP (fun r => w &&& r.1 == r.2.1) = 0) ∧
    ((∃ why, decode w = .illegal why) ↔ illegalBy w)

/-- Decoder and encoder agree both ways: a word decodes to a command exactly when it is the command's word. -/
def Obligations.DecodeInvertsEncode : Prop :=
  ∀ (w : CmdWord) (i : Instr), decode w = .cmd i ↔ w = encode i

/-- 30_encoding.md R60: the four example words, and one word of each family written out from the fields; R61: the all-zero word
is illegal (the name of the reason is the model's choice, log entry 13). -/
def Obligations.SpecWordsDecode : Prop :=
  decode 0x00000008#32 = .cmd .add ∧ decode 0x00007F14#32 = .cmd (.shl 127#7) ∧ decode 0x00018030#32 = .cmd .sextD ∧
  decode 0x00010033#32 = .cmd .naruW ∧ decode 0x00000001#32 = .cmd .clz64 ∧ decode 0x0000001A#32 = .cmd .muls ∧
  decode 0x00000025#32 = .cmd .divmods ∧ decode 0x0000002C#32 = .cmd .uabs ∧ decode 0x00000000#32 = .illegal .unassignedOpcode

/-! Bit primitives. -/

/-- 40_bit_primitives.md R80. -/
def Obligations.Clz64CountsLeadingZeros : Prop :=
  decode 0x00000001#32 = .cmd .clz64 ∧
  ∀ s : State, ∃ n : Nat, n ≤ 64 ∧ exec .clz64 s = succeeds s (BitVec.ofNat 128 n) 0#128 false ∧
    (∀ k, 64 - n ≤ k → k < 64 → s.opa.getLsbD k = false) ∧ (n < 64 → s.opa.getLsbD (63 - n) = true)

/-- 40_bit_primitives.md R82: the index of the highest 1 bit, and the model fault on a zero operand. -/
def Obligations.FlsFindsLastSetBit : Prop :=
  decode 0x00000002#32 = .cmd .fls ∧
  ∀ s : State,
    (s.opa = 0#128 → exec .fls s = .fault .flsZeroOperand) ∧
    (s.opa ≠ 0#128 → ∃ n : Nat, n ≤ 127 ∧ exec .fls s = succeeds s (BitVec.ofNat 128 n) 0#128 false ∧
      2 ^ n ≤ s.opa.toNat ∧ s.opa.toNat < 2 ^ (n + 1))

/-- 40_bit_primitives.md R83: ZeroOperand (5) exactly on zero, otherwise the result of FLS. -/
def Obligations.FlscChecksForZero : Prop :=
  decode 0x00000003#32 = .cmd .flsc ∧
  ∀ s : State,
    (s.opa = 0#128 → exec .flsc s = raises s 5#3) ∧
    (s.opa ≠ 0#128 → ∃ n : Nat, n ≤ 127 ∧ exec .flsc s = succeeds s (BitVec.ofNat 128 n) 0#128 false ∧
      exec .fls s = exec .flsc s ∧ 2 ^ n ≤ s.opa.toNat ∧ s.opa.toNat < 2 ^ (n + 1))

/-- 60_exceptions.md R169: the fault is no final state and no later command clears it: no later edge goes on from it, whatever
the host drives. That a later edge with RST = 1 does not go on either is the model's choice (log entry 8). -/
def Obligations.FlsFaultIsNeverCleared : Prop :=
  ∀ (s : State) (p : PortIn) (rest : List PortIn) (n : Nat), s.inputs = p :: rest → p.rst = false → s.busy = true →
    s.wait = 0 → s.cmd = 0x00000002#32 → s.opa = 0#128 → runSteps (n + 1) s = .fault .flsZeroOperand

/-- 40_bit_primitives.md R84: the laws of find-last-set, for what FLS and FLSC answer on a nonzero operand. -/
def Obligations.FlsLaws : Prop :=
  ∀ s : State, s.opa ≠ 0#128 →
    ∃ n : Nat, exec .fls s = succeeds s (BitVec.ofNat 128 n) 0#128 false ∧
      exec .flsc s = succeeds s (BitVec.ofNat 128 n) 0#128 false ∧
      n ≤ 127 ∧ s.opa >>> n = 1#128 ∧ n = 127 - leadingZeros s.opa

/-! Add, subtract, negate. -/

/-- 41_add_sub.md R90, R92, R93: ADD, SUB and NEG wrap mod 2^128, SUB adds the complement plus 1, NEG is the complement plus
1, and none raises. -/
def Obligations.AddSubNegWrap : Prop :=
  decode 0x00000008#32 = .cmd .add ∧ decode 0x0000000A#32 = .cmd .sub ∧ decode 0x0000000B#32 = .cmd .neg ∧
  ∀ s : State,
    exec .add s = succeeds s (BitVec.ofNat 128 (s.opa.toNat + s.opb.toNat)) 0#128 false ∧
    exec .sub s = succeeds s (BitVec.ofInt 128 ((s.opa.toNat : Int) - s.opb.toNat)) 0#128 false ∧
    exec .sub s = succeeds s (s.opa + (~~~s.opb + 1#128)) 0#128 false ∧
    exec .neg s = succeeds s (BitVec.ofInt 128 (0 - (s.opa.toNat : Int))) 0#128 false ∧
    exec .neg s = succeeds s (~~~s.opa + 1#128) 0#128 false

/-- 41_add_sub.md R91: ADDC writes the wrapped sum and the carry-out. -/
def Obligations.AddcWritesTheCarryOut : Prop :=
  decode 0x00000009#32 = .cmd .addc ∧
  ∀ s : State, exec .addc s =
    succeeds s (BitVec.ofNat 128 (s.opa.toNat + s.opb.toNat)) 0#128 (decide (2 ^ 128 ≤ s.opa.toNat + s.opb.toNat))

/-- 41_add_sub.md R94: NEGS raises Arithmetic (3) exactly on SMIN, otherwise negates. -/
def Obligations.NegsRaisesOnMinValue : Prop :=
  decode 0x0000000C#32 = .cmd .negs ∧
  ∀ s : State,
    (s.opa = minValue → exec .negs s = raises s 3#3) ∧
    (s.opa ≠ minValue → exec .negs s = succeeds s (BitVec.ofInt 128 (-s.opa.toInt)) 0#128 false)

/-- 41_add_sub.md R90, the word-level method: the sum of the words, with the carry when the summed `lo` is below `OPA.lo`,
is the sum of the patterns; "the conditions `lo < OPA.lo` and `lo < OPB.lo` are equivalent". -/
def Obligations.WordLevelAddIsAdd : Prop :=
  ∀ a b : Data, addWords a b = BitVec.ofNat 128 (a.toNat + b.toNat) ∧
    ((lo a + lo b).toNat < (lo a).toNat ↔ (lo a + lo b).toNat < (lo b).toNat)

/-! Bitwise and shift. -/

/-- 42_bitwise_shift.md R100 to R103. -/
def Obligations.BitwiseCommandsActOnEveryBit : Prop :=
  decode 0x00000010#32 = .cmd .and ∧ decode 0x00000011#32 = .cmd .or ∧ decode 0x00000012#32 = .cmd .xor ∧
  decode 0x00000013#32 = .cmd .not ∧
  ∀ s : State,
    exec .and s = succeeds s (s.opa &&& s.opb) 0#128 false ∧ exec .or s = succeeds s (s.opa ||| s.opb) 0#128 false ∧
    exec .xor s = succeeds s (s.opa ^^^ s.opb) 0#128 false ∧ exec .not s = succeeds s (~~~s.opa) 0#128 false

/-- 42_bitwise_shift.md R104, R105: SHL multiplies by 2^s mod 2^128, SHR divides by 2^s, for every amount 0..127. -/
def Obligations.LogicalShiftsScaleByPowersOfTwo : Prop :=
  (∀ n : BitVec 7, decode (0#17 ++ n ++ 0x14#8) = .cmd (.shl n) ∧ decode (0#17 ++ n ++ 0x15#8) = .cmd (.shr n)) ∧
  ∀ (s : State) (n : BitVec 7),
    exec (.shl n) s = succeeds s (BitVec.ofNat 128 (s.opa.toNat * 2 ^ n.toNat)) 0#128 false ∧
    exec (.shr n) s = succeeds s (BitVec.ofNat 128 (s.opa.toNat / 2 ^ n.toNat)) 0#128 false

/-- 42_bitwise_shift.md R106: SAR is `enc(floor(sval(OPA) / 2^s))`, rounding toward minus infinity. -/
def Obligations.ArithmeticShiftFloors : Prop :=
  (∀ n : BitVec 7, decode (0#17 ++ n ++ 0x16#8) = .cmd (.sar n)) ∧
  ∀ (s : State) (n : BitVec 7),
    exec (.sar n) s = succeeds s (BitVec.ofInt 128 (Int.fdiv s.opa.toInt (2 ^ n.toNat))) 0#128 false

/-- 42_bitwise_shift.md R107: the shift laws the source states, and the branch for amounts 64..127 on the words. -/
def Obligations.ShiftLaws : Prop :=
  ∀ s : State,
    exec (.shl 0#7) s = succeeds s s.opa 0#128 false ∧ exec (.shr 0#7) s = succeeds s s.opa 0#128 false ∧
    exec (.sar 0#7) s = succeeds s s.opa 0#128 false ∧
    exec (.shl 64#7) s = succeeds s (s.opa.extractLsb' 0 64 ++ 0#64) 0#128 false ∧
    ∀ n : BitVec 7, 64 ≤ n.toNat →
      exec (.shl n) s = succeeds s ((s.opa.extractLsb' 0 64 <<< (n.toNat - 64)) ++ 0#64) 0#128 false ∧
      exec (.shr n) s = succeeds s (0#64 ++ (s.opa.extractLsb' 64 64 >>> (n.toNat - 64))) 0#128 false ∧
      exec (.sar n) s = succeeds s ((if s.opa.getLsbD 127 then BitVec.allOnes 64 else 0#64) ++
        (s.opa.extractLsb' 64 64).sshiftRight (n.toNat - 64)) 0#128 false

/-! Multiply. -/

/-- 43_multiply.md R115, R116: the exact product of the low words; the truncated product, signed or unsigned. -/
def Obligations.UnsignedMultiplies : Prop :=
  decode 0x00000018#32 = .cmd .umul64 ∧ decode 0x00000019#32 = .cmd .mul ∧
  ∀ s : State,
    (∃ r : Data, exec .umul64 s = succeeds s r 0#128 false ∧
      r.toNat = (s.opa.toNat % 2 ^ 64) * (s.opb.toNat % 2 ^ 64)) ∧
    exec .mul s = succeeds s (BitVec.ofNat 128 (s.opa.toNat * s.opb.toNat)) 0#128 false ∧
    exec .mul s = succeeds s (BitVec.ofInt 128 (s.opa.toInt * s.opb.toInt)) 0#128 false

/-- 43_multiply.md R118, R120: MULS raises Arithmetic (3) exactly on {MONE, SMIN}; on every other pair every fast path and the
general path give ZERO on a zero operand and otherwise the truncated product, negated when its bit 127 disagrees with the
expected sign. -/
def Obligations.MulsCorrectsTheSign : Prop :=
  decode 0x0000001A#32 = .cmd .muls ∧
  ∀ s : State,
    ((s.opa = minusOne ∧ s.opb = minValue ∨ s.opa = minValue ∧ s.opb = minusOne) → exec .muls s = raises s 3#3) ∧
    (¬ (s.opa = minusOne ∧ s.opb = minValue ∨ s.opa = minValue ∧ s.opb = minusOne) →
      exec .muls s = succeeds s
        (if s.opa = 0#128 ∨ s.opb = 0#128 then 0#128
         else if (BitVec.ofNat 128 (s.opa.toNat * s.opb.toNat)).msb = (s.opa.msb ^^ s.opb.msb) then
           BitVec.ofNat 128 (s.opa.toNat * s.opb.toNat)
         else -BitVec.ofNat 128 (s.opa.toNat * s.opb.toNat)) 0#128 false)

/-- 43_multiply.md R118, corner cases: when the exact product is in range, MULS gives it. -/
def Obligations.MulsIsExactInRange : Prop :=
  ∀ s : State, -2 ^ 127 ≤ s.opa.toInt * s.opb.toInt → s.opa.toInt * s.opb.toInt ≤ 2 ^ 127 - 1 →
    exec .muls s = succeeds s (BitVec.ofInt 128 (s.opa.toInt * s.opb.toInt)) 0#128 false

/-- 43_multiply.md R117: the 32-bit-split multiply gives the truncated product. -/
def Obligations.SplitMultiplyIsMul : Prop :=
  ∀ a b : Data, mulSplit a b = BitVec.ofNat 128 (a.toNat * b.toNat)

/-! Divide. -/

/-- 44_divide.md R125, R127, R128, R129: DivideByZero (1) exactly on a zero divisor; otherwise the floor quotient and the
remainder. -/
def Obligations.UnsignedDivides : Prop :=
  decode 0x00000020#32 = .cmd .divu ∧ decode 0x00000021#32 = .cmd .remu ∧ decode 0x00000022#32 = .cmd .divmodu ∧
  ∀ s : State,
    (s.opb = 0#128 → exec .divu s = raises s 1#3 ∧ exec .remu s = raises s 1#3 ∧ exec .divmodu s = raises s 1#3) ∧
    (s.opb ≠ 0#128 → ∃ q r : Data,
      s.opa.toNat = q.toNat * s.opb.toNat + r.toNat ∧ r.toNat < s.opb.toNat ∧
      exec .divu s = succeeds s q 0#128 false ∧ exec .remu s = succeeds s r 0#128 false ∧
      exec .divmodu s = succeeds s q r false)

/-- 44_divide.md R130 to R133: DivideByZero (1) exactly on a zero divisor; otherwise the quotient rounded toward zero and the
remainder with the dividend's sign, `SMIN / MONE` included. -/
def Obligations.SignedDividesTruncate : Prop :=
  decode 0x00000023#32 = .cmd .divs ∧ decode 0x00000024#32 = .cmd .rems ∧ decode 0x00000025#32 = .cmd .divmods ∧
  ∀ s : State,
    (s.opb = 0#128 → exec .divs s = raises s 1#3 ∧ exec .rems s = raises s 1#3 ∧ exec .divmods s = raises s 1#3) ∧
    (s.opb ≠ 0#128 →
      exec .divs s = succeeds s (BitVec.ofInt 128 (Int.tdiv s.opa.toInt s.opb.toInt)) 0#128 false ∧
      exec .rems s = succeeds s (BitVec.ofInt 128 (Int.tmod s.opa.toInt s.opb.toInt)) 0#128 false ∧
      exec .divmods s = succeeds s (BitVec.ofInt 128 (Int.tdiv s.opa.toInt s.opb.toInt))
        (BitVec.ofInt 128 (Int.tmod s.opa.toInt s.opb.toInt)) false)

/-- 44_divide.md R134: dividend = quotient·divisor + remainder (mod 2^128, exact but for SMIN / MONE), the remainder's
magnitude is below the divisor's, and the remainder is ZERO or has the dividend's sign. -/
def Obligations.DivideLaws : Prop :=
  ∀ s : State, s.opb ≠ 0#128 →
    (∃ q r : Data, exec .divmodu s = succeeds s q r false ∧ s.opa.toNat = q.toNat * s.opb.toNat + r.toNat ∧
      r.toNat < s.opb.toNat) ∧
    (∃ q r : Data, exec .divmods s = succeeds s q r false ∧ s.opa = q * s.opb + r ∧
      r.toInt.natAbs < s.opb.toInt.natAbs ∧ (r = 0#128 ∨ r.toInt.sign = s.opa.toInt.sign) ∧
      (¬ (s.opa = minValue ∧ s.opb = minusOne) → s.opa.toInt = q.toInt * s.opb.toInt + r.toInt))

/-- 44_divide.md R126: the shift-subtract divider, fast paths and loop, gives R125's quotient and remainder, and its loop runs
at most 128 times. -/
def Obligations.ShiftSubtractIsDivision : Prop :=
  ∀ a b : Data, b ≠ 0#128 →
    shiftSubtract a b = (BitVec.ofNat 128 (a.toNat / b.toNat), BitVec.ofNat 128 (a.toNat % b.toNat)) ∧
    (divStart a b).count.toNat ≤ 128

/-! Compare and sign. -/

/-- 45_compare_sign.md R140, R141: the three-way results. -/
def Obligations.ComparesAnswerThreeWay : Prop :=
  decode 0x00000028#32 = .cmd .cmpu ∧ decode 0x00000029#32 = .cmd .cmps ∧
  ∀ s : State,
    exec .cmpu s =
      succeeds s (ordering (s.opa.toNat < s.opb.toNat) (s.opa.toNat > s.opb.toNat)) 0#128 false ∧
    exec .cmps s =
      succeeds s (ordering (s.opa.toInt < s.opb.toInt) (s.opa.toInt > s.opb.toInt)) 0#128 false

/-- 45_compare_sign.md R140, R141: HPTS's methods (lexicographic on the words; signs first, then the raw words) give the
numeric comparisons. -/
def Obligations.WordLevelComparesAgree : Prop :=
  ∀ a b : Data,
    compareWords a b = (if a.toNat < b.toNat then -1 else if a.toNat > b.toNat then 1 else 0) ∧
    compareSigned a b = (if a.toInt < b.toInt then -1 else if a.toInt > b.toInt then 1 else 0)

/-- 45_compare_sign.md R142, R143, R144: the sign, the checked absolute value with Arithmetic (3) exactly on SMIN, and the
magnitude. -/
def Obligations.SignAndAbsoluteValues : Prop :=
  decode 0x0000002A#32 = .cmd .sgn ∧ decode 0x0000002B#32 = .cmd .abs ∧ decode 0x0000002C#32 = .cmd .uabs ∧
  ∀ s : State,
    exec .sgn s = succeeds s (BitVec.ofInt 128 s.opa.toInt.sign) 0#128 false ∧
    (s.opa = minValue → exec .abs s = raises s 3#3) ∧
    (s.opa ≠ minValue → exec .abs s = succeeds s (BitVec.ofNat 128 s.opa.toInt.natAbs) 0#128 false) ∧
    exec .uabs s = succeeds s (BitVec.ofNat 128 s.opa.toInt.natAbs) 0#128 false

/-! Convert. -/

/-- 46_convert.md R150 at the four widths. -/
def Obligations.SextSignExtends : Prop :=
  signExtends .sextB 0x00000030#32 8 ∧ signExtends .sextH 0x00008030#32 16 ∧ signExtends .sextW 0x00010030#32 32 ∧
  signExtends .sextD 0x00018030#32 64

/-- 46_convert.md R151 at the four widths. -/
def Obligations.ZextZeroExtends : Prop :=
  zeroExtends .zextB 0x00000031#32 8 ∧ zeroExtends .zextH 0x00008031#32 16 ∧ zeroExtends .zextW 0x00010031#32 32 ∧
  zeroExtends .zextD 0x00018031#32 64

/-- 46_convert.md R152 at the four widths: Overflow (2) exactly outside −2^(N−1)..2^(N−1)−1, otherwise the low N bits, and
extending the result's low N bits with their sign gives back OPA. -/
def Obligations.NarsChecksTheSignedRange : Prop :=
  narrows .narsB 0x00000032#32 8 (-2 ^ 7) (2 ^ 7 - 1) ∧ narrows .narsH 0x00008032#32 16 (-2 ^ 15) (2 ^ 15 - 1) ∧
  narrows .narsW 0x00010032#32 32 (-2 ^ 31) (2 ^ 31 - 1) ∧ narrows .narsD 0x00018032#32 64 (-2 ^ 63) (2 ^ 63 - 1) ∧
  ∀ (x : Data) (n : Nat), n ∈ [8, 16, 32, 64] → -2 ^ (n - 1) ≤ x.toInt → x.toInt ≤ 2 ^ (n - 1) - 1 →
    BitVec.ofInt 128 (Int.bmod (x.toNat % 2 ^ n : Nat) (2 ^ n)) = x

/-- 46_convert.md R153 at the four widths: Overflow (2) exactly outside 0..2^N−1, otherwise the low N bits, which equal OPA;
and the check is right for an unsigned source too. -/
def Obligations.NaruChecksTheUnsignedRange : Prop :=
  narrows .naruB 0x00000033#32 8 0 (2 ^ 8 - 1) ∧ narrows .naruH 0x00008033#32 16 0 (2 ^ 16 - 1) ∧
  narrows .naruW 0x00010033#32 32 0 (2 ^ 32 - 1) ∧ narrows .naruD 0x00018033#32 64 0 (2 ^ 64 - 1) ∧
  ∀ (x : Data) (n : Nat), n ∈ [8, 16, 32, 64] →
    (0 ≤ x.toInt ∧ x.toInt ≤ 2 ^ n - 1 ↔ x.toNat ≤ 2 ^ n - 1) ∧
    (0 ≤ x.toInt → x.toInt ≤ 2 ^ n - 1 → BitVec.ofNat 128 (x.toNat % 2 ^ n) = x)

/-! Rules over all commands. -/

/-- 10_state.md R25: only ADDC can leave C = 1, and exactly on a carry-out. -/
def Obligations.OnlyAddcSetsCarry : Prop :=
  ∀ s t : State, respond s = .next t →
    (t.c = true ↔ decode s.cmd = .cmd .addc ∧ 2 ^ 128 ≤ s.opa.toNat + s.opb.toNat)

/-- 10_state.md R24: only DIVMODU and DIVMODS can leave RES2 other than ZERO. -/
def Obligations.OnlyDivmodWritesRes2 : Prop :=
  ∀ s t : State, respond s = .next t → t.res2 ≠ 0#128 →
    decode s.cmd = .cmd .divmodu ∨ decode s.cmd = .cmd .divmods

/-- 60_exceptions.md R166: which command raises which code and when; codes 4 and 7 are never produced. -/
def Obligations.ErrorCausesAreTheTable : Prop :=
  ∀ s t : State, respond s = .next t →
    (t.err = 1#3 ↔ ∃ i, decode s.cmd = .cmd i ∧ divides i ∧ s.opb = 0#128) ∧
    (t.err = 2#3 ↔ ∃ i low high, decode s.cmd = .cmd i ∧ (i, low, high) ∈ narrowBounds ∧
      ¬ (low ≤ s.opa.toInt ∧ s.opa.toInt ≤ high)) ∧
    (t.err = 3#3 ↔ ((decode s.cmd = .cmd .negs ∨ decode s.cmd = .cmd .abs) ∧ s.opa = minValue) ∨
      (decode s.cmd = .cmd .muls ∧ (s.opa = minusOne ∧ s.opb = minValue ∨ s.opa = minValue ∧ s.opb = minusOne))) ∧
    (t.err = 5#3 ↔ decode s.cmd = .cmd .flsc ∧ s.opa = 0#128) ∧
    (t.err = 6#3 ↔ illegalBy s.cmd) ∧
    t.err ≠ 4#3 ∧ t.err ≠ 7#3

/-- 60_exceptions.md R168: a command that ends with an error leaves RES and RES2 ZERO, C = 0, BUSY = 0 and DONE = 1. -/
def Obligations.ErrorsDeliverNoResult : Prop :=
  ∀ s t : State, respond s = .next t → t.err ≠ 0#3 →
    t.res = 0#128 ∧ t.res2 = 0#128 ∧ t.c = false ∧ t.busy = false ∧ t.done = true

/-- The frame of every command, legal or not, success or error: it writes RES, RES2, C and ERR, clears BUSY, sets DONE, and
leaves every other field as it was (10_state.md R32; 60_exceptions.md R165: "The block never changes any other state because
of an error"). That the divider's working values, the count of edges to wait and the index of free values are kept at a
completion is the model's choice (log entries 7, 11 and 6). -/
def Obligations.CommandsWriteOnlyTheResponse : Prop :=
  ∀ s t : State, respond s = .next t →
    t = { s with res := t.res, res2 := t.res2, c := t.c, err := t.err, busy := false, done := true }

/-- 00_scope.md R18, 10_state.md R22: two states with the same CMD, OPA, OPB give the same response, whatever else they hold. -/
def Obligations.ResponseDependsOnTheLatchesOnly : Prop :=
  ∀ s t : State, s.cmd = t.cmd → s.opa = t.opa → s.opb = t.opb → sameResponse (respond s) (respond t)

/-- 10_state.md R34: the response function is total: a result with ERR = NONE, an error code with zeros, or the model fault of
FLS on zero and of nothing else; never a refusal. -/
def Obligations.EveryCommandAnswersOrIsFlsOfZero : Prop :=
  ∀ s : State,
    (decode s.cmd = .cmd .fls ∧ s.opa = 0#128 ∧ respond s = .fault .flsZeroOperand) ∨
    (¬ (decode s.cmd = .cmd .fls ∧ s.opa = 0#128) ∧ ∃ t, respond s = .next t ∧
      (t.err = 0#3 ∨ (t.res = 0#128 ∧ t.res2 = 0#128 ∧ t.c = false)))

/-- The invariant holds after reset. -/
def Obligations.ResetSatisfiesInvariant : Prop := State.reset.Inv

/-- 10_state.md R27: BUSY and DONE are never both 1, and whenever DONE is 1 the outputs are the response of the latched
command: every edge keeps this, whatever the host drives. -/
def Obligations.EveryStepKeepsInvariant : Prop :=
  ∀ s t : State, s.Inv → step s = .next t → t.Inv

/-- 10_state.md R31, R32, R33: a command accepted by an idle block keeps BUSY = 1 and DONE = 0 until LAT edges after the
acceptance, and at that edge BUSY = 0, DONE = 1 and the outputs are its response, provided no reset comes in between and
whatever else the host drives (START while busy included). Where `rest` is shorter than LAT it rests on what an edge past the
end of the schedule reads (the model's choice, log entry 2). -/
def Obligations.AcceptedCommandCompletesAfterLat : Prop :=
  ∀ (s : State) (p : PortIn) (rest : List PortIn),
    s.inputs = p :: rest → p.rst = false → p.start = true → s.busy = false →
    (∀ q ∈ rest.take (latency p.cmdIn p.aIn p.bIn), q.rst = false) →
    (∀ k, k < latency p.cmdIn p.aIn p.bIn → ∃ t, runSteps (1 + k) s = .next t ∧ t.busy = true ∧ t.done = false) ∧
    (∀ u, respond { s with cmd := p.cmdIn, opa := p.aIn, opb := p.bIn } = .next u →
      ∃ t, runSteps (1 + latency p.cmdIn p.aIn p.bIn) s = .next t ∧ t.busy = false ∧ t.done = true ∧
        t.res = u.res ∧ t.res2 = u.res2 ∧ t.c = u.c ∧ t.err = u.err ∧
        t.inputs = rest.drop (latency p.cmdIn p.aIn p.bIn))

/-! Timing, byte lanes, other methods, assembler. -/

/-- 10_state.md R32, 70_reset_and_hazards.md R199: every command takes at least one cycle, and outside the divide family the
latency does not depend on the operands (the model's reading of R199, log entry 4). -/
def Obligations.OnlyDivideLatencyDependsOnOperands : Prop :=
  (∀ (w : CmdWord) (a b : Data), 1 ≤ latency w a b) ∧
  ∀ (w : CmdWord) (a b a' b' : Data), (∀ i, decode w = .cmd i → ¬ divides i) → latency w a b = latency w a' b'

/-- 70_reset_and_hazards.md R199: the reference latencies lie in 1..129, and 129 is reached for a dividend with bit 127 set
and the divisor ONE. -/
def Obligations.ReferenceLatencyWithin129 : Prop :=
  (∀ (w : CmdWord) (a b : Data), 1 ≤ referenceLatency w a b ∧ referenceLatency w a b ≤ 129) ∧
  ∀ a : Data, a.msb = true → referenceLatency 0x00000022#32 a 1#128 = 129

/-- 20_memory.md R44: 16 lanes, lane k is bits 8k+7..8k, and a buffer written from a port and read back gives the same
value, and the other way round. -/
def Obligations.ByteLanesRoundTrip : Prop :=
  (∀ x : Data, (toLanes x).length = 16 ∧ ofLanes (toLanes x) = x ∧
    ∀ k, k < 16 → (toLanes x)[k]? = some (BitVec.ofNat 8 (x.toNat / 2 ^ (8 * k)))) ∧
  ∀ l : List (BitVec 8), l.length = 16 → toLanes (ofLanes l) = l

/-- 40_bit_primitives.md R81: the narrowing search with the nibble table gives `clz64`. -/
def Obligations.NarrowingSearchIsClz64 : Prop := ∀ w : Word64, clzSearch w = clz64 w

/-- 30_encoding.md R65: the words and operands of the five pseudo-commands on well-formed operands, and the results its notes
name: MOV leaves the operand, CLR leaves ZERO, CMPZ answers what SGN answers. -/
def Obligations.PseudoCommandsExpand : Prop :=
  (∀ a : AsmOperand, a.wf = true →
    assemble (.inc a) = some ⟨0x00000008#32, some (operandValue a), some 1#128⟩ ∧
    assemble (.dec a) = some ⟨0x0000000A#32, some (operandValue a), some 1#128⟩ ∧
    assemble (.mov a) = some ⟨0x00000011#32, some (operandValue a), some 0#128⟩ ∧
    assemble (.cmpz a) = some ⟨0x00000029#32, some (operandValue a), some 0#128⟩) ∧
  assemble .clr = some ⟨0x00000012#32, some 0#128, some 0#128⟩ ∧
  (∀ s : State, s.opb = 0#128 → exec .or s = succeeds s s.opa 0#128 false ∧ exec .cmps s = exec .sgn s) ∧
  (∀ s : State, s.opa = 0#128 → s.opb = 0#128 → exec .xor s = succeeds s 0#128 0#128 false)

/-- 30_encoding.md R66: every word the assembler emits is legal. R63: on every line that carries an operand the assembler
refuses a decimal value outside −2^127..2^128−1 and a hexadecimal pattern without 1 to 32 digits, and on a shift line an amount
outside 0..127. -/
def Obligations.AssemblerEmitsLegalWords : Prop :=
  (∀ (l : AsmLine) (c : Command), assemble l = some c → ¬ illegalBy c.word) ∧
  (∀ (l : AsmLine) (a : AsmOperand), carries l a → outOfRange a → assemble l = none) ∧
  (∀ (m : ShiftMnemonic) (a : AsmOperand) (n : Int), n < 0 ∨ n > 127 → assemble (.shift m a n) = none)

/-- 30_encoding.md R63: a shift line with an amount 0..127 is the word `s<<8 | OP`. -/
def Obligations.AssemblerEncodesTheAmount : Prop :=
  ∀ (v : Int) (n : Nat), -2 ^ 127 ≤ v → v ≤ 2 ^ 128 - 1 → n ≤ 127 →
    assemble (.shift .shl (.decimal v) n) = some ⟨BitVec.ofNat 32 (n * 2 ^ 8 + 0x14), some (BitVec.ofInt 128 v), none⟩ ∧
    assemble (.shift .shr (.decimal v) n) = some ⟨BitVec.ofNat 32 (n * 2 ^ 8 + 0x15), some (BitVec.ofInt 128 v), none⟩ ∧
    assemble (.shift .sar (.decimal v) n) = some ⟨BitVec.ofNat 32 (n * 2 ^ 8 + 0x16), some (BitVec.ofInt 128 v), none⟩

/-- 30_encoding.md R64: what the two assignment forms of a host program store, for a line the assembler accepts and a command
the block answers when it is not busy: RES in `v`, or RES in `q` and RES2 in `r`; every other host variable is kept and the program goes on. The second
form is stated for two different variables; R64 is silent on one variable in both places (log entry 15). On a busy block both
forms stop the host and store nothing (70_reset_and_hazards.md R196; log entry 19). -/
def Obligations.HostAssignmentsStoreTheResponse : Prop :=
  (∀ (program : List HostStmt) (h : HostState) (l : Line HostOperand) (a : AsmLine) (c : Command) (t : State),
    h.fill l = some a → assemble a = some c → h.block.busy = false → issue c h.block = .next t →
    (∀ v, program[h.line]? = some (.assign v l) → ∃ g, hostStep program h = .ok g ∧ g.variable v = some t.res ∧
      (∀ u, u ≠ v → g.variable u = h.variable u) ∧ g.line = h.line + 1 ∧ g.block = t) ∧
    (∀ q r, q ≠ r → program[h.line]? = some (.assignPair q r l) → ∃ g, hostStep program h = .ok g ∧
      g.variable q = some t.res ∧ g.variable r = some t.res2 ∧ (∀ u, u ≠ q → u ≠ r → g.variable u = h.variable u) ∧
      g.line = h.line + 1 ∧ g.block = t)) ∧
  (∀ (program : List HostStmt) (h : HostState) (l : Line HostOperand) (a : AsmLine) (c : Command),
    h.fill l = some a → assemble a = some c → h.block.busy = true →
    (∃ v, program[h.line]? = some (.assign v l)) ∨ (∃ q r, program[h.line]? = some (.assignPair q r l)) →
    hostStep program h = .error .issuedWhileBusy)

/-- 30_encoding.md R64, 70_reset_and_hazards.md R195: what a host program reads after issuing a command to an idle block is
what the block's edges leave: START at one edge, then waiting for LAT edges. The waiting edges lie past the end of the
one-edge schedule and read as idle (the model's choice, log entry 2), and a port the command does not read takes a free value
(the model's choice, log entry 12). -/
def Obligations.IssuedCommandIsTheEdgesAnswer : Prop :=
  ∀ (c : Command) (s t : State), s.busy = false → issue c s = .next t →
    ∃ u, runSteps (1 + latency c.word (startPort c s.free).aIn (startPort c s.free).bIn)
        { s with inputs := [startPort c s.free] } = .next u ∧
      u.res = t.res ∧ u.res2 = t.res2 ∧ u.c = t.c ∧ u.err = t.err ∧ u.busy = false ∧ u.done = true
end

