-- ==== Sys2Proof/Laws/Operands.lean ====
section
/-! SUPPORT. The values of the operand views of Machine/Operands.lean as numbers: one lemma or two per function, which later
proofs cite instead of unfolding it. -/

namespace Sys2Proof.Machine

@[simp] theorem toNat_hi (x : Data) : (hi x).toNat = x.toNat / 2 ^ 64 := by
  have h := x.isLt
  simp only [hi, BitVec.extractLsb'_toNat, Nat.shiftRight_eq_div_pow]
  omega

@[simp] theorem toNat_lo (x : Data) : (lo x).toNat = x.toNat % 2 ^ 64 := by
  simp [lo, BitVec.extractLsb'_toNat]

@[simp] theorem toNat_ofWords (h l : Word64) : (ofWords h l).toNat = h.toNat * 2 ^ 64 + l.toNat := by
  have hl := l.isLt
  simp only [ofWords, BitVec.toNat_append]
  rw [Nat.shiftLeft_eq, Nat.mul_comm, ← Nat.two_pow_add_eq_or_of_lt hl]

theorem ofWords_hi_lo (x : Data) : ofWords (hi x) (lo x) = x := by
  apply BitVec.eq_of_toNat_eq
  simp only [toNat_ofWords, toNat_hi, toNat_lo]
  omega

@[simp] theorem uval_enc (v : Int) : uval (enc v) = v % 2 ^ 128 := by
  simp only [uval, enc, BitVec.toNat_ofInt]
  omega

theorem enc_natCast (n : Nat) : enc n = BitVec.ofNat 128 n := by
  simp [enc]

@[simp] theorem enc_uval (x : Data) : enc (uval x) = x := by
  apply BitVec.eq_of_toNat_eq
  have := x.isLt
  simp only [enc, uval, BitVec.toNat_ofInt]
  omega

theorem sval_eq_toInt (x : Data) : sval x = x.toInt := by
  have := x.isLt
  simp only [sval, uval, BitVec.toInt_eq_msb_cond]
  split <;> simp

@[simp] theorem enc_sval (x : Data) : enc (sval x) = x := by
  rw [sval_eq_toInt, enc, BitVec.ofInt_toInt]

theorem enc_eq_enc_iff (v w : Int) : enc v = enc w ↔ v % 2 ^ 128 = w % 2 ^ 128 := by
  constructor
  · intro h
    rw [← uval_enc, h, uval_enc]
  · intro h
    apply BitVec.eq_of_toNat_eq
    have h1 := uval_enc v
    have h2 := uval_enc w
    simp only [uval] at h1 h2
    omega

theorem sign_eq (x : Data) : sign x = (sval x).sign := by
  have hx := x.isLt
  have h0 : (hi x = 0 ∧ lo x = 0) ↔ x.toNat = 0 := by
    constructor
    · rintro ⟨h1, h2⟩
      have a := toNat_hi x
      have b := toNat_lo x
      rw [h1] at a; rw [h2] at b
      simp at a b
      omega
    · intro h
      constructor <;> apply BitVec.eq_of_toNat_eq <;> simp [h]
  unfold sign
  simp only [h0, sval, uval]
  have hm : x.msb = true ↔ 2 ^ 127 ≤ x.toNat := by
    simp [BitVec.msb_eq_decide]
  by_cases hz : x.toNat = 0
  · simp [hz, BitVec.msb_eq_decide]
  · by_cases hs : x.msb
    · simp only [hz, hs, if_true, if_false]
      rw [Int.sign_eq_neg_one_of_neg]
      omega
    · simp only [hz, hs, if_false]
      rw [Int.sign_eq_one_of_pos]
      · simp
      · simp; omega

theorem magnitude_toNat (x : Data) : (magnitude x).toNat = (sval x).natAbs := by
  have : (sval x).natAbs < 2 ^ 128 := by
    have h1 := BitVec.toInt_lt (x := x)
    have h2 := BitVec.le_toInt x
    rw [sval_eq_toInt]
    omega
  rw [magnitude, enc_natCast, BitVec.toNat_ofNat, Nat.mod_eq_of_lt this]

theorem leadingZerosBelow_le {n : Nat} (w : BitVec n) (k : Nat) : leadingZerosBelow w k ≤ k := by
  induction k with
  | zero => simp [leadingZerosBelow]
  | succ k ih => simp only [leadingZerosBelow]; split <;> omega

theorem leadingZerosBelow_high {n : Nat} (w : BitVec n) (k j : Nat) (h1 : k - leadingZerosBelow w k ≤ j) (h2 : j < k) :
    w.getLsbD j = false := by
  induction k with
  | zero => omega
  | succ k ih =>
    simp only [leadingZerosBelow] at h1
    split at h1
    · omega
    · next h =>
      by_cases hj : j = k
      · subst hj; simpa using h
      · exact ih (by omega) (by omega)

theorem leadingZerosBelow_top {n : Nat} (w : BitVec n) (k : Nat) (h : leadingZerosBelow w k < k) :
    w.getLsbD (k - 1 - leadingZerosBelow w k) = true := by
  induction k with
  | zero => omega
  | succ k ih =>
    simp only [leadingZerosBelow] at h ⊢
    split
    · next h => simpa using h
    · next h' =>
      simp only [h'] at h
      have := ih (by simpa using h)
      rwa [show k + 1 - 1 - (leadingZerosBelow w k + 1) = k - 1 - leadingZerosBelow w k by omega]

theorem leadingZeros_le {n : Nat} (w : BitVec n) : leadingZeros w ≤ n := leadingZerosBelow_le w n

theorem lt_two_pow_leadingZeros {n : Nat} (w : BitVec n) : w.toNat < 2 ^ (n - leadingZeros w) := by
  apply Nat.lt_pow_two_of_testBit
  intro i hi
  by_cases h : i < n
  · have := leadingZerosBelow_high w n i hi h
    simpa [BitVec.getLsbD] using this
  · exact BitVec.testBit_toNat w ▸ BitVec.getLsbD_of_ge w i (by omega)

theorem two_pow_le_of_leadingZeros_lt {n : Nat} (w : BitVec n) (h : leadingZeros w < n) :
    2 ^ (n - 1 - leadingZeros w) ≤ w.toNat := by
  apply Nat.ge_two_pow_of_testBit
  have := leadingZerosBelow_top w n h
  simpa [leadingZeros, BitVec.getLsbD] using this

theorem leadingZeros_eq_width_iff {n : Nat} (w : BitVec n) : leadingZeros w = n ↔ w = 0#n := by
  constructor
  · intro h
    have := lt_two_pow_leadingZeros w
    apply BitVec.eq_of_toNat_eq
    simp [h] at this
    simp [this]
  · rintro rfl
    have hle := leadingZeros_le (0#n)
    by_contra hne
    have := two_pow_le_of_leadingZeros_lt (0#n) (by omega)
    have hp : 0 < 2 ^ (n - 1 - leadingZeros (0#n)) := by positivity
    simp at this

end Sys2Proof.Machine
end

