-- ==== Sys2Proof/Laws/BitPrimitives.lean ====
section
/-! SUPPORT. What clz64 and flsIndex compute (40_bit_primitives.md R80, R82). -/

namespace Sys2Proof.Machine

theorem clz64_le (w : Word64) : clz64 w ≤ 64 := leadingZeros_le w

theorem hi_eq_zero_iff (x : Data) : hi x = 0 ↔ x.toNat < 2 ^ 64 := by
  constructor
  · intro h
    have a := toNat_hi x
    rw [h] at a
    simp at a
    omega
  · intro h
    apply BitVec.eq_of_toNat_eq
    simp
    omega

theorem flsIndex_le (x : Data) : flsIndex x ≤ 127 := by
  unfold flsIndex; split <;> omega

/-- The last set bit brackets the value: `2^n ≤ uval(x) < 2^(n+1)` (40_bit_primitives.md R82). -/
theorem flsIndex_spec {x : Data} (h : x ≠ zero) : 2 ^ flsIndex x ≤ x.toNat ∧ x.toNat < 2 ^ (flsIndex x + 1) := by
  have hx := x.isLt
  by_cases hh : hi x = 0
  · have hlt := (hi_eq_zero_iff x).1 hh
    have hlo : (lo x).toNat = x.toNat := by rw [toNat_lo]; omega
    have hne : clz64 (lo x) < 64 := by
      rcases lt_or_eq_of_le (clz64_le (lo x)) with h' | h'
      · exact h'
      · have h0 := (leadingZeros_eq_width_iff (lo x)).1 h'
        rw [h0] at hlo
        exact absurd (BitVec.eq_of_toNat_eq (by simpa [zero] using hlo.symm)) h
    have h1 := lt_two_pow_leadingZeros (lo x)
    have h2 := two_pow_le_of_leadingZeros_lt (lo x) hne
    have hf : flsIndex x = 63 - clz64 (lo x) := by simp [flsIndex, hh]
    rw [hf, show 63 - clz64 (lo x) + 1 = 64 - leadingZeros (lo x) by unfold clz64 at *; omega]
    rw [hlo] at h1 h2
    exact ⟨h2, h1⟩
  · have hge : 2 ^ 64 ≤ x.toNat := by
      by_contra hc; exact hh ((hi_eq_zero_iff x).2 (by omega))
    have hne : clz64 (hi x) < 64 := by
      rcases lt_or_eq_of_le (clz64_le (hi x)) with h' | h'
      · exact h'
      · exact absurd ((leadingZeros_eq_width_iff (hi x)).1 h') hh
    have h1 := lt_two_pow_leadingZeros (hi x)
    have h2 := two_pow_le_of_leadingZeros_lt (hi x) hne
    have hf : flsIndex x = 127 - clz64 (hi x) := if_pos hh
    rw [toNat_hi] at h1 h2
    rw [hf, show 127 - clz64 (hi x) = (64 - 1 - leadingZeros (hi x)) + 64 by unfold clz64 at *; omega,
      show 64 - 1 - leadingZeros (hi x) + 64 + 1 = (64 - leadingZeros (hi x)) + 64 by unfold clz64 at *; omega]
    rw [Nat.pow_add, Nat.pow_add]
    constructor
    · exact (Nat.le_div_iff_mul_le (by norm_num)).1 h2
    · exact (Nat.div_lt_iff_lt_mul (by norm_num)).1 h1

end Sys2Proof.Machine
end

