-- ==== Sys2Proof/Laws/State.lean ====
section
/-! SUPPORT. What each update of State leaves in each field: one lemma per field per update, so that no later proof unfolds
an update. -/

namespace Sys2Proof.Machine

@[simp] theorem State.answer_cmd (s : State) (r : Response) : (s.answer r).cmd = s.cmd := rfl
@[simp] theorem State.answer_opa (s : State) (r : Response) : (s.answer r).opa = s.opa := rfl
@[simp] theorem State.answer_opb (s : State) (r : Response) : (s.answer r).opb = s.opb := rfl
@[simp] theorem State.answer_res (s : State) (r : Response) : (s.answer r).res = r.res := rfl
@[simp] theorem State.answer_res2 (s : State) (r : Response) : (s.answer r).res2 = r.res2 := rfl
@[simp] theorem State.answer_busy (s : State) (r : Response) : (s.answer r).busy = false := rfl
@[simp] theorem State.answer_done (s : State) (r : Response) : (s.answer r).done = true := rfl
@[simp] theorem State.answer_c (s : State) (r : Response) : (s.answer r).c = r.c := rfl
@[simp] theorem State.answer_err (s : State) (r : Response) : (s.answer r).err = r.err := rfl
@[simp] theorem State.answer_div (s : State) (r : Response) : (s.answer r).div = s.div := rfl
@[simp] theorem State.answer_wait (s : State) (r : Response) : (s.answer r).wait = s.wait := rfl
@[simp] theorem State.answer_free (s : State) (r : Response) : (s.answer r).free = s.free := rfl
@[simp] theorem State.answer_inputs (s : State) (r : Response) : (s.answer r).inputs = s.inputs := rfl

@[simp] theorem State.complete_cmd (s : State) (r r2 : Data) (c : Bool) : (s.complete r r2 c).cmd = s.cmd := rfl
@[simp] theorem State.complete_opa (s : State) (r r2 : Data) (c : Bool) : (s.complete r r2 c).opa = s.opa := rfl
@[simp] theorem State.complete_opb (s : State) (r r2 : Data) (c : Bool) : (s.complete r r2 c).opb = s.opb := rfl
@[simp] theorem State.complete_res (s : State) (r r2 : Data) (c : Bool) : (s.complete r r2 c).res = r := rfl
@[simp] theorem State.complete_res2 (s : State) (r r2 : Data) (c : Bool) : (s.complete r r2 c).res2 = r2 := rfl
@[simp] theorem State.complete_busy (s : State) (r r2 : Data) (c : Bool) : (s.complete r r2 c).busy = false := rfl
@[simp] theorem State.complete_done (s : State) (r r2 : Data) (c : Bool) : (s.complete r r2 c).done = true := rfl
@[simp] theorem State.complete_c (s : State) (r r2 : Data) (c : Bool) : (s.complete r r2 c).c = c := rfl
@[simp] theorem State.complete_err (s : State) (r r2 : Data) (c : Bool) : (s.complete r r2 c).err = 0#3 := rfl
@[simp] theorem State.complete_div (s : State) (r r2 : Data) (c : Bool) : (s.complete r r2 c).div = s.div := rfl
@[simp] theorem State.complete_wait (s : State) (r r2 : Data) (c : Bool) : (s.complete r r2 c).wait = s.wait := rfl
@[simp] theorem State.complete_free (s : State) (r r2 : Data) (c : Bool) : (s.complete r r2 c).free = s.free := rfl
@[simp] theorem State.complete_inputs (s : State) (r r2 : Data) (c : Bool) : (s.complete r r2 c).inputs = s.inputs := rfl

@[simp] theorem State.raise_cmd (s : State) (e : ErrKind) : (s.raise e).cmd = s.cmd := rfl
@[simp] theorem State.raise_opa (s : State) (e : ErrKind) : (s.raise e).opa = s.opa := rfl
@[simp] theorem State.raise_opb (s : State) (e : ErrKind) : (s.raise e).opb = s.opb := rfl
@[simp] theorem State.raise_res (s : State) (e : ErrKind) : (s.raise e).res = 0#128 := rfl
@[simp] theorem State.raise_res2 (s : State) (e : ErrKind) : (s.raise e).res2 = 0#128 := rfl
@[simp] theorem State.raise_busy (s : State) (e : ErrKind) : (s.raise e).busy = false := rfl
@[simp] theorem State.raise_done (s : State) (e : ErrKind) : (s.raise e).done = true := rfl
@[simp] theorem State.raise_c (s : State) (e : ErrKind) : (s.raise e).c = false := rfl
@[simp] theorem State.raise_err (s : State) (e : ErrKind) : (s.raise e).err = e.code := rfl
@[simp] theorem State.raise_div (s : State) (e : ErrKind) : (s.raise e).div = s.div := rfl
@[simp] theorem State.raise_wait (s : State) (e : ErrKind) : (s.raise e).wait = s.wait := rfl
@[simp] theorem State.raise_free (s : State) (e : ErrKind) : (s.raise e).free = s.free := rfl
@[simp] theorem State.raise_inputs (s : State) (e : ErrKind) : (s.raise e).inputs = s.inputs := rfl

@[simp] theorem State.advance_cmd (s : State) : (s.advance).cmd = s.cmd := rfl
@[simp] theorem State.advance_opa (s : State) : (s.advance).opa = s.opa := rfl
@[simp] theorem State.advance_opb (s : State) : (s.advance).opb = s.opb := rfl
@[simp] theorem State.advance_res (s : State) : (s.advance).res = s.res := rfl
@[simp] theorem State.advance_res2 (s : State) : (s.advance).res2 = s.res2 := rfl
@[simp] theorem State.advance_busy (s : State) : (s.advance).busy = s.busy := rfl
@[simp] theorem State.advance_done (s : State) : (s.advance).done = s.done := rfl
@[simp] theorem State.advance_c (s : State) : (s.advance).c = s.c := rfl
@[simp] theorem State.advance_err (s : State) : (s.advance).err = s.err := rfl
@[simp] theorem State.advance_div (s : State) : (s.advance).div = s.div := rfl
@[simp] theorem State.advance_wait (s : State) : (s.advance).wait = s.wait := rfl
@[simp] theorem State.advance_free (s : State) : (s.advance).free = s.free := rfl
@[simp] theorem State.advance_inputs (s : State) : (s.advance).inputs = s.inputs.tail := rfl

@[simp] theorem State.unspecified_cmd (s : State) : (s.unspecified).cmd = s.cmd := rfl
@[simp] theorem State.unspecified_opa (s : State) : (s.unspecified).opa = s.opa := rfl
@[simp] theorem State.unspecified_opb (s : State) : (s.unspecified).opb = s.opb := rfl
@[simp] theorem State.unspecified_res (s : State) : (s.unspecified).res = Config.freeRes s.free := rfl
@[simp] theorem State.unspecified_res2 (s : State) : (s.unspecified).res2 = Config.freeRes2 s.free := rfl
@[simp] theorem State.unspecified_busy (s : State) : (s.unspecified).busy = s.busy := rfl
@[simp] theorem State.unspecified_done (s : State) : (s.unspecified).done = s.done := rfl
@[simp] theorem State.unspecified_c (s : State) : (s.unspecified).c = Config.freeCarry s.free := rfl
@[simp] theorem State.unspecified_err (s : State) : (s.unspecified).err = Config.freeErr s.free := rfl
@[simp] theorem State.unspecified_div (s : State) : (s.unspecified).div = ⟨Config.freeDividend s.free, Config.freeQuotient s.free, Config.freeDivisor s.free, Config.freeCount s.free⟩ := rfl
@[simp] theorem State.unspecified_wait (s : State) : (s.unspecified).wait = s.wait := rfl
@[simp] theorem State.unspecified_free (s : State) : (s.unspecified).free = s.free + 1 := rfl
@[simp] theorem State.unspecified_inputs (s : State) : (s.unspecified).inputs = s.inputs := rfl

@[simp] theorem State.resetEdge_cmd (s : State) : (s.resetEdge).cmd = 0#32 := rfl
@[simp] theorem State.resetEdge_opa (s : State) : (s.resetEdge).opa = 0#128 := rfl
@[simp] theorem State.resetEdge_opb (s : State) : (s.resetEdge).opb = 0#128 := rfl
@[simp] theorem State.resetEdge_res (s : State) : (s.resetEdge).res = 0#128 := rfl
@[simp] theorem State.resetEdge_res2 (s : State) : (s.resetEdge).res2 = 0#128 := rfl
@[simp] theorem State.resetEdge_busy (s : State) : (s.resetEdge).busy = false := rfl
@[simp] theorem State.resetEdge_done (s : State) : (s.resetEdge).done = false := rfl
@[simp] theorem State.resetEdge_c (s : State) : (s.resetEdge).c = false := rfl
@[simp] theorem State.resetEdge_err (s : State) : (s.resetEdge).err = 0#3 := rfl
@[simp] theorem State.resetEdge_div (s : State) : (s.resetEdge).div = s.div := rfl
@[simp] theorem State.resetEdge_wait (s : State) : (s.resetEdge).wait = 0 := rfl
@[simp] theorem State.resetEdge_free (s : State) : (s.resetEdge).free = s.free := rfl
@[simp] theorem State.resetEdge_inputs (s : State) : (s.resetEdge).inputs = s.inputs := rfl

@[simp] theorem State.acceptEdge_cmd (s : State) (p : PortIn) : (s.acceptEdge p).cmd = p.cmdIn := rfl
@[simp] theorem State.acceptEdge_opa (s : State) (p : PortIn) : (s.acceptEdge p).opa = p.aIn := rfl
@[simp] theorem State.acceptEdge_opb (s : State) (p : PortIn) : (s.acceptEdge p).opb = p.bIn := rfl
@[simp] theorem State.acceptEdge_res (s : State) (p : PortIn) : (s.acceptEdge p).res = Config.freeRes s.free := rfl
@[simp] theorem State.acceptEdge_res2 (s : State) (p : PortIn) : (s.acceptEdge p).res2 = Config.freeRes2 s.free := rfl
@[simp] theorem State.acceptEdge_busy (s : State) (p : PortIn) : (s.acceptEdge p).busy = true := rfl
@[simp] theorem State.acceptEdge_done (s : State) (p : PortIn) : (s.acceptEdge p).done = false := rfl
@[simp] theorem State.acceptEdge_c (s : State) (p : PortIn) : (s.acceptEdge p).c = Config.freeCarry s.free := rfl
@[simp] theorem State.acceptEdge_err (s : State) (p : PortIn) : (s.acceptEdge p).err = Config.freeErr s.free := rfl
@[simp] theorem State.acceptEdge_div (s : State) (p : PortIn) : (s.acceptEdge p).div = ⟨Config.freeDividend s.free, Config.freeQuotient s.free, Config.freeDivisor s.free, Config.freeCount s.free⟩ := rfl
@[simp] theorem State.acceptEdge_wait (s : State) (p : PortIn) : (s.acceptEdge p).wait = waitCycles p.cmdIn p.aIn p.bIn := rfl
@[simp] theorem State.acceptEdge_free (s : State) (p : PortIn) : (s.acceptEdge p).free = s.free + 1 := rfl
@[simp] theorem State.acceptEdge_inputs (s : State) (p : PortIn) : (s.acceptEdge p).inputs = s.inputs := rfl

@[simp] theorem State.waitEdge_cmd (s : State) : (s.waitEdge).cmd = s.cmd := rfl
@[simp] theorem State.waitEdge_opa (s : State) : (s.waitEdge).opa = s.opa := rfl
@[simp] theorem State.waitEdge_opb (s : State) : (s.waitEdge).opb = s.opb := rfl
@[simp] theorem State.waitEdge_res (s : State) : (s.waitEdge).res = Config.freeRes s.free := rfl
@[simp] theorem State.waitEdge_res2 (s : State) : (s.waitEdge).res2 = Config.freeRes2 s.free := rfl
@[simp] theorem State.waitEdge_busy (s : State) : (s.waitEdge).busy = s.busy := rfl
@[simp] theorem State.waitEdge_done (s : State) : (s.waitEdge).done = s.done := rfl
@[simp] theorem State.waitEdge_c (s : State) : (s.waitEdge).c = Config.freeCarry s.free := rfl
@[simp] theorem State.waitEdge_err (s : State) : (s.waitEdge).err = Config.freeErr s.free := rfl
@[simp] theorem State.waitEdge_div (s : State) : (s.waitEdge).div = ⟨Config.freeDividend s.free, Config.freeQuotient s.free, Config.freeDivisor s.free, Config.freeCount s.free⟩ := rfl
@[simp] theorem State.waitEdge_wait (s : State) : (s.waitEdge).wait = s.wait - 1 := rfl
@[simp] theorem State.waitEdge_free (s : State) : (s.waitEdge).free = s.free + 1 := rfl
@[simp] theorem State.waitEdge_inputs (s : State) : (s.waitEdge).inputs = s.inputs := rfl

@[simp] theorem State.loaded_cmd (s : State) (w : CmdWord) : (s.loaded w).cmd = w := rfl
@[simp] theorem State.loaded_opa (s : State) (w : CmdWord) : (s.loaded w).opa = s.opa := rfl
@[simp] theorem State.loaded_opb (s : State) (w : CmdWord) : (s.loaded w).opb = s.opb := rfl
@[simp] theorem State.loaded_res (s : State) (w : CmdWord) : (s.loaded w).res = s.res := rfl
@[simp] theorem State.loaded_res2 (s : State) (w : CmdWord) : (s.loaded w).res2 = s.res2 := rfl
@[simp] theorem State.loaded_busy (s : State) (w : CmdWord) : (s.loaded w).busy = true := rfl
@[simp] theorem State.loaded_done (s : State) (w : CmdWord) : (s.loaded w).done = false := rfl
@[simp] theorem State.loaded_c (s : State) (w : CmdWord) : (s.loaded w).c = s.c := rfl
@[simp] theorem State.loaded_err (s : State) (w : CmdWord) : (s.loaded w).err = s.err := rfl
@[simp] theorem State.loaded_div (s : State) (w : CmdWord) : (s.loaded w).div = s.div := rfl
@[simp] theorem State.loaded_wait (s : State) (w : CmdWord) : (s.loaded w).wait = 0 := rfl
@[simp] theorem State.loaded_free (s : State) (w : CmdWord) : (s.loaded w).free = s.free := rfl
@[simp] theorem State.loaded_inputs (s : State) (w : CmdWord) : (s.loaded w).inputs = PortIn.idle :: s.inputs := rfl

/-- Two answers on one edge: the second one stands. -/
@[simp] theorem State.answer_answer (s : State) (r r' : Response) : (s.answer r).answer r' = s.answer r' := rfl

/-- An answer does not touch the schedule, so the order of the two updates does not matter. -/
@[simp] theorem State.advance_answer (s : State) (r : Response) : (s.answer r).advance = s.advance.answer r := rfl

/-- At the edge after `loaded` the ports are idle. -/
@[simp] theorem State.loaded_port (s : State) (w : CmdWord) : (s.loaded w).port = PortIn.idle := rfl

/-- The ports at the next edge are the head of the schedule. -/
theorem State.port_of_cons {s : State} {p : PortIn} {rest : List PortIn} (h : s.inputs = p :: rest) : s.port = p := by
  simp [State.port, h]

end Sys2Proof.Machine
end

