-- ==== Sys2Proof/Laws/Exec.lean ====
section
/-! SUPPORT. What each shared operation and the step can do, said once: succeed, fail, exec, respond, step. Later proofs cite
these instead of unfolding. -/

namespace Sys2Proof.Machine
/-- Everything `succeed` can do: it answers next with RES written, RES2 and C cleared, ERR = NONE. -/
theorem succeed_eq (r : Data) (s : State) :
    succeed r s = .next (s.answer { res := r, res2 := 0#128, c := false, err := 0#3 }) := rfl

/-- Everything `fail` can do: it answers next with ERR = code(E) and everything else of the response cleared. -/
theorem fail_eq (e : ErrKind) (s : State) :
    fail e s = .next (s.answer { res := 0#128, res2 := 0#128, c := false, err := e.code }) := rfl

theorem complete_eq (s : State) (r r2 : Data) (c : Bool) :
    s.complete r r2 c = s.answer { res := r, res2 := r2, c := c, err := 0#3 } := rfl

theorem raise_eq (s : State) (e : ErrKind) :
    s.raise e = s.answer { res := 0#128, res2 := 0#128, c := false, err := e.code } := rfl

/-- No meaning refuses, only FLS faults, and whatever a meaning writes it writes by one `answer` on the state it was given. -/
theorem exec_cases (i : Instr) (s : State) :
    (i = .fls ∧ s.opa = zero ∧ exec i s = .fault .flsZeroOperand) ∨ ∃ r, exec i s = .next (s.answer r) := by
  cases i <;>
    simp only [exec, execFls, execFlsc, execClz64, execAdd, execAddc, execSub, execNeg, execNegs, execAnd, execOr, execXor,
      execNot, execShl, execShr, execSar, execUmul64, execMul, execMuls, execDivu, execRemu, execDivmodu, execDivs, execRems,
      execDivmods, execCmpu, execCmps, execSgn, execAbs, execUabs, execSextB, execSextH, execSextW, execSextD, execZextB,
      execZextH, execZextW, execZextD, execNarsB, execNarsH, execNarsW, execNarsD, execNaruB, execNaruH, execNaruW,
      execNaruD, signExtendN, zeroExtendN, narrowSignedN, narrowUnsignedN, succeed_eq, fail_eq, complete_eq] <;>
    first
    | exact .inr ⟨_, rfl⟩
    | (split_ifs <;> first | exact .inr ⟨_, rfl⟩ | simp_all)


/-- Everything the completion edge can do (10_state.md R34): the model fault of FLS, or an answer. -/
theorem respond_cases (s : State) :
    (decode s.cmd = .cmd .fls ∧ s.opa = zero ∧ respond s = .fault .flsZeroOperand) ∨
      ∃ r, respond s = .next (s.answer r) := by
  unfold respond
  cases hd : decode s.cmd with
  | illegal why => exact .inr ⟨_, rfl⟩
  | cmd i =>
    rcases exec_cases i s with ⟨rfl, h, hf⟩ | h
    · exact .inl ⟨rfl, h, hf⟩
    · exact .inr h

/-- Everything a step can do: one rising edge resets, completes, goes on, accepts, or holds (10_state.md R31 to R33,
70_reset_and_hazards.md R190, 60_exceptions.md R180). -/
theorem step_cases (s : State) :
    (s.port.rst = true ∧ step s = .next s.advance.resetEdge) ∨
    (s.port.rst = false ∧ s.busy = true ∧ s.wait = 0 ∧ step s = respond s.advance) ∨
    (s.port.rst = false ∧ s.busy = true ∧ s.wait ≠ 0 ∧ step s = .next s.advance.waitEdge) ∨
    (s.port.rst = false ∧ s.busy = false ∧ s.port.start = true ∧ step s = .next (s.advance.acceptEdge s.port)) ∨
    (s.port.rst = false ∧ s.busy = false ∧ s.port.start = false ∧ step s = .next s.advance) := by
  unfold step clockEdge
  cases hr : s.port.rst <;> cases hb : s.busy <;> cases hs : s.port.start <;> by_cases hw : s.wait = 0 <;>
    simp [hb, hw]

/-- The loaded word's command is the one the very next step completes. -/
theorem step_loaded (s : State) (w : CmdWord) : step (s.loaded w) = respond (s.loaded w).advance := rfl

end Sys2Proof.Machine
end

