-- ==== Sys2Proof/Laws/HostProgram.lean ====
section
/-! SUPPORT. What issuing a command and running a line can do, said once (30_encoding.md R64, 70_reset_and_hazards.md R196). -/

namespace Sys2Proof.Machine

/-- Issuing ends in an answer or in the model fault of FLS; an answer leaves `BUSY = 0` and `DONE = 1`. -/
theorem issue_cases (c : Command) (s : State) :
    issue c s = .fault .flsZeroOperand ∨ ∃ t, issue c s = .next t ∧ t.busy = false ∧ t.done = true := by
  unfold issue
  rcases respond_cases { s.acceptEdge (startPort c s.free) with wait := 0 } with ⟨-, -, h⟩ | ⟨r, h⟩
  · exact .inl h
  · exact .inr ⟨_, h, rfl, rfl⟩

/-- A host never issues to a busy block. -/
theorem HostState.run_busy {h : HostState} {l : Line HostOperand} {c : Command} (hc : (h.fill l).bind assemble = some c)
    (hb : h.block.busy = true) (use : State → HostState) : h.run l use = .error .issuedWhileBusy := by
  simp [HostState.run, hc, hb]

/-- A line that runs hands on the answer of its command, given by a block that was not busy. -/
theorem HostState.run_ok {h g : HostState} {l : Line HostOperand} {use : State → HostState} (hr : h.run l use = .ok g) :
    ∃ c t, (h.fill l).bind assemble = some c ∧ h.block.busy = false ∧ issue c h.block = .next t ∧ g = use t := by
  unfold HostState.run at hr
  cases hc : (h.fill l).bind assemble with
  | none => simp [hc] at hr
  | some c =>
    cases hb : h.block.busy
    · rcases issue_cases c h.block with hi | ⟨t, hi, -⟩
      · simp [hc, hb, hi] at hr
      · refine ⟨c, t, rfl, rfl, hi, ?_⟩
        simp only [hc, hb, hi] at hr
        injection hr with hr
        exact hr.symm
    · simp [hc, hb] at hr

end Sys2Proof.Machine
end

