-- ==== Sys2Proof/Laws/PerInstr.lean ====
section
/-! SUPPORT. Statements about every command as syntax, one lemma per constructor of Instr. RoundTrip: the decoder reads from a
command's word that command (30_encoding.md R60, R62). -/

namespace Sys2Proof.Laws

/-- The decoder reads `i` from the word of `i`. -/
def RoundTrip.Statement (i : Instr) : Prop := decode (encode i) = .cmd i

theorem RoundTrip.clz64 : RoundTrip.Statement .clz64 := rfl

theorem RoundTrip.fls : RoundTrip.Statement .fls := rfl

theorem RoundTrip.flsc : RoundTrip.Statement .flsc := rfl

theorem RoundTrip.add : RoundTrip.Statement .add := rfl

theorem RoundTrip.addc : RoundTrip.Statement .addc := rfl

theorem RoundTrip.sub : RoundTrip.Statement .sub := rfl

theorem RoundTrip.neg : RoundTrip.Statement .neg := rfl

theorem RoundTrip.negs : RoundTrip.Statement .negs := rfl

theorem RoundTrip.and : RoundTrip.Statement .and := rfl

theorem RoundTrip.or : RoundTrip.Statement .or := rfl

theorem RoundTrip.xor : RoundTrip.Statement .xor := rfl

theorem RoundTrip.not : RoundTrip.Statement .not := rfl

theorem RoundTrip.shl (amount : BitVec 7) : RoundTrip.Statement (.shl amount) := by
  unfold RoundTrip.Statement; revert amount; decide

theorem RoundTrip.shr (amount : BitVec 7) : RoundTrip.Statement (.shr amount) := by
  unfold RoundTrip.Statement; revert amount; decide

theorem RoundTrip.sar (amount : BitVec 7) : RoundTrip.Statement (.sar amount) := by
  unfold RoundTrip.Statement; revert amount; decide

theorem RoundTrip.umul64 : RoundTrip.Statement .umul64 := rfl

theorem RoundTrip.mul : RoundTrip.Statement .mul := rfl

theorem RoundTrip.muls : RoundTrip.Statement .muls := rfl

theorem RoundTrip.divu : RoundTrip.Statement .divu := rfl

theorem RoundTrip.remu : RoundTrip.Statement .remu := rfl

theorem RoundTrip.divmodu : RoundTrip.Statement .divmodu := rfl

theorem RoundTrip.divs : RoundTrip.Statement .divs := rfl

theorem RoundTrip.rems : RoundTrip.Statement .rems := rfl

theorem RoundTrip.divmods : RoundTrip.Statement .divmods := rfl

theorem RoundTrip.cmpu : RoundTrip.Statement .cmpu := rfl

theorem RoundTrip.cmps : RoundTrip.Statement .cmps := rfl

theorem RoundTrip.sgn : RoundTrip.Statement .sgn := rfl

theorem RoundTrip.abs : RoundTrip.Statement .abs := rfl

theorem RoundTrip.uabs : RoundTrip.Statement .uabs := rfl

theorem RoundTrip.sextB : RoundTrip.Statement .sextB := rfl

theorem RoundTrip.sextH : RoundTrip.Statement .sextH := rfl

theorem RoundTrip.sextW : RoundTrip.Statement .sextW := rfl

theorem RoundTrip.sextD : RoundTrip.Statement .sextD := rfl

theorem RoundTrip.zextB : RoundTrip.Statement .zextB := rfl

theorem RoundTrip.zextH : RoundTrip.Statement .zextH := rfl

theorem RoundTrip.zextW : RoundTrip.Statement .zextW := rfl

theorem RoundTrip.zextD : RoundTrip.Statement .zextD := rfl

theorem RoundTrip.narsB : RoundTrip.Statement .narsB := rfl

theorem RoundTrip.narsH : RoundTrip.Statement .narsH := rfl

theorem RoundTrip.narsW : RoundTrip.Statement .narsW := rfl

theorem RoundTrip.narsD : RoundTrip.Statement .narsD := rfl

theorem RoundTrip.naruB : RoundTrip.Statement .naruB := rfl

theorem RoundTrip.naruH : RoundTrip.Statement .naruH := rfl

theorem RoundTrip.naruW : RoundTrip.Statement .naruW := rfl

theorem RoundTrip.naruD : RoundTrip.Statement .naruD := rfl

end Sys2Proof.Laws
end

