-- ==== Sys2Proof/Tests/Slice0.lean ====
section
/-! SUPPORT. Tests and witnesses. Every expected value comes from spec/: the words from 30_encoding.md R56 and R60, the
responses from the tables of 95_test_vectors.md section 2, the edges from the trace of its section 3. A witness shows states
and operands that meet the hypotheses of the statement it is named after, clause by clause. -/

namespace Sys2Proof.Tests
open Sys2Proof Sys2Proof.Machine Statements

/-! Helpers. -/

/-- The block just out of reset with two operands in the latches. -/
def operands (a b : Data) : State := { State.reset with opa := a, opb := b }

/-- A command one edge before its completion. -/
def inFlight (w : CmdWord) (a b : Data) : State := (operands a b).loaded w

/-- What a host reads after one step on a loaded command: RES, RES2, C, ERR. -/
def answer (w : Nat) (a b : Nat) : Option (Nat × Nat × Bool × Nat) :=
  match step (inFlight (BitVec.ofNat 32 w) (BitVec.ofNat 128 a) (BitVec.ofNat 128 b)) with
  | .next t => t.readResponse.map fun r => (r.res.toNat, r.res2.toNat, r.c, r.err.toNat)
  | _ => none

/-- Decoder and encoder agree on a list of words and commands. -/
def agrees (l : List (CmdWord × Instr)) : Bool := l.all fun p => decode p.1 == .cmd p.2 && encode p.2 == p.1

/-- Input levels with START. -/
def starting (w : CmdWord) (a b : Data) : PortIn := { rst := false, start := true, cmdIn := w, aIn := a, bIn := b }

/-- Input levels with RST and START. -/
def resetting : PortIn := { starting 0x08#32 1#128 1#128 with rst := true }

/-! Decoding: every constructor's word, in hexadecimal as R60 gives it, and one word of each family field by field:
RSV, W, SHAMT, OP. -/

theorem test_decode_bit_primitives : agrees [(0x00000001#32, .clz64), (0x00000002#32, .fls), (0x00000003#32, .flsc)] = true := by decide
theorem test_decode_add_sub : agrees [(0x00000008#32, .add), (0x00000009#32, .addc), (0x0000000A#32, .sub), (0x0000000B#32, .neg), (0x0000000C#32, .negs)] = true := by decide
theorem test_decode_bitwise : agrees [(0x00000010#32, .and), (0x00000011#32, .or), (0x00000012#32, .xor), (0x00000013#32, .not)] = true := by decide
theorem test_decode_multiply : agrees [(0x00000018#32, .umul64), (0x00000019#32, .mul), (0x0000001A#32, .muls)] = true := by decide
theorem test_decode_divide : agrees [(0x00000020#32, .divu), (0x00000021#32, .remu), (0x00000022#32, .divmodu), (0x00000023#32, .divs), (0x00000024#32, .rems), (0x00000025#32, .divmods)] = true := by decide
theorem test_decode_compare_sign : agrees [(0x00000028#32, .cmpu), (0x00000029#32, .cmps), (0x0000002A#32, .sgn), (0x0000002B#32, .abs), (0x0000002C#32, .uabs)] = true := by decide
theorem test_decode_sext : agrees [(0x00000030#32, .sextB), (0x00008030#32, .sextH), (0x00010030#32, .sextW), (0x00018030#32, .sextD)] = true := by decide
theorem test_decode_zext : agrees [(0x00000031#32, .zextB), (0x00008031#32, .zextH), (0x00010031#32, .zextW), (0x00018031#32, .zextD)] = true := by decide
theorem test_decode_nars : agrees [(0x00000032#32, .narsB), (0x00008032#32, .narsH), (0x00010032#32, .narsW), (0x00018032#32, .narsD)] = true := by decide
theorem test_decode_naru : agrees [(0x00000033#32, .naruB), (0x00008033#32, .naruH), (0x00010033#32, .naruW), (0x00018033#32, .naruD)] = true := by decide
theorem test_decode_shift : agrees [(0x00007F14#32, .shl 127#7), (0x00000415#32, .shr 4#7), (0x00004016#32, .sar 64#7)] =
    true := by decide
theorem test_fields_bit_primitives : decode (0#15 ++ 0#2 ++ 0#7 ++ 0b00000010#8) = .cmd .fls := by decide
theorem test_fields_add_sub : decode (0#15 ++ 0#2 ++ 0#7 ++ 0b00001001#8) = .cmd .addc := by decide
theorem test_fields_bitwise : decode (0#15 ++ 0#2 ++ 0#7 ++ 0b00010011#8) = .cmd .not := by decide
theorem test_fields_shift : decode (0#15 ++ 0#2 ++ 0b1000001#7 ++ 0b00010101#8) = .cmd (.shr 65#7) := by decide
theorem test_fields_multiply : decode (0#15 ++ 0#2 ++ 0#7 ++ 0b00011010#8) = .cmd .muls := by decide
theorem test_fields_divide : decode (0#15 ++ 0#2 ++ 0#7 ++ 0b00100010#8) = .cmd .divmodu := by decide
theorem test_fields_compare_sign : decode (0#15 ++ 0#2 ++ 0#7 ++ 0b00101100#8) = .cmd .uabs := by decide
theorem test_fields_convert : decode (0#15 ++ 0b10#2 ++ 0#7 ++ 0b00110010#8) = .cmd .narsW := by decide
theorem test_decode_table_word : decodeTableWord 32 0x00010033 = some .naruW ∧ decodeTableWord 32 0 = none := by decide

/-- The words of 95_test_vectors.md section 2.8, by the condition of R61 each meets. -/
theorem test_illegal_words :
    decode 0x00000000#32 = .illegal .unassignedOpcode ∧ decode 0x00000004#32 = .illegal .unassignedOpcode ∧
    decode 0x000000FF#32 = .illegal .unassignedOpcode ∧ decode 0x00020008#32 = .illegal .reservedBits ∧
    decode 0x80000008#32 = .illegal .reservedBits ∧ decode 0x00000108#32 = .illegal .shamtNotZero ∧
    decode 0x00008008#32 = .illegal .widthNotZero ∧ decode 0x00008014#32 = .illegal .widthNotZero ∧
    decode 0x00000130#32 = .illegal .shamtNotZero ∧ decode 0x00000122#32 = .illegal .shamtNotZero := by decide

/-- Legality is looked at before the divisor (60_exceptions.md R170). -/
theorem test_illegal_before_divisor : answer 0x00122 1 0 = some (0, 0, false, 6) := by decide
theorem test_illegal_zero_word : answer 0x00000 5 7 = some (0, 0, false, 6) := by decide

/-! Well-formedness: for each check a term it refuses, and the assembler with it. -/

theorem test_wf_decimal_above : (Line.unary .clz64 (.decimal (2 ^ 128))).wf = false := by decide
theorem test_wf_decimal_below : (Line.unary .clz64 (.decimal (-2 ^ 127 - 1))).wf = false := by decide
theorem test_wf_decimal_bounds : (Line.binary .add (.decimal (2 ^ 128 - 1)) (.decimal (-2 ^ 127))).wf = true := by decide
theorem test_wf_hex_no_digit : (Line.mov (.hex [])).wf = false := by decide
theorem test_wf_hex_33_digits : (Line.mov (.hex (List.replicate 33 0#4))).wf = false := by decide
theorem test_wf_hex_32_digits : (Line.mov (.hex (List.replicate 32 15#4))).wf = true := by decide
theorem test_wf_amount_above : (Line.shift .shl (.decimal 1) 128).wf = false := by decide
theorem test_wf_amount_below : (Line.shift .sar (.decimal 1) (-1)).wf = false := by decide
theorem test_wf_shift_operand : (Line.shift .shr (.hex []) 1).wf = false := by decide
theorem test_wf_binary_as_unary : (Line.unary .add (.decimal 5)).wf = false := by decide
theorem test_wf_unary_as_binary : (Line.binary .not (.decimal 5) (.decimal 7)).wf = false := by decide
theorem test_wf_shift_as_unary : (Line.unary (.shl 1#7) (.decimal 5)).wf = false := by decide
theorem test_wf_second_operand : (Line.binary .add (.decimal 5) (.hex [])).wf = false := by decide
theorem test_assemble_refuses_first_operand : assemble (.binary .add (.decimal (2 ^ 200)) (.decimal 1)) = none := by decide
theorem test_wf_pseudo_operand : (Line.inc (.hex [])).wf = false ∧ (Line.dec (.decimal (2 ^ 128))).wf = false ∧
    (Line.cmpz (.decimal (2 ^ 128))).wf = false := by decide
theorem test_wf_instr : (Instr.shl 127#7).wf = true := by decide

/-- The examples of 30_encoding.md R63. -/
theorem test_assemble_shl : assemble (.shift .shl (.decimal 1) 127) = some ⟨0x00007F14#32, some 1#128, none⟩ := by decide
theorem test_assemble_sext : assemble (.unary .sextB (.hex [8#4, 0#4])) = some ⟨0x00000030#32, some 0x80#128, none⟩ := by
  decide
theorem test_assemble_divmods : assemble (.binary .divmods (.decimal (-7)) (.decimal 2)) =
    some ⟨0x00000025#32, some 0xFFFFFFFFFFFFFFFFFFFFFFFFFFFFFFF9#128, some 2#128⟩ := by decide
theorem test_assemble_refuses : assemble (.shift .shl (.decimal 1) 128) = none := by decide

/-! One command, one step: 95_test_vectors.md sections 2.1 to 2.7. -/

theorem test_clz64_1 : answer 0x00001 0 0 = some (0x40, 0, false, 0) := by decide
theorem test_clz64_2 : answer 0x00001 0x500000000000000FF 0 = some (0x38, 0, false, 0) := by decide
theorem test_fls_1 : answer 0x00002 0xFFFFFFFFFFFFFFFF 0 = some (0x3F, 0, false, 0) := by decide
theorem test_flsc_1 : answer 0x00003 0 0 = some (0, 0, false, 5) := by decide
theorem test_flsc_2 : answer 0x00003 0x80000000000000000000000000000000 0 = some (0x7F, 0, false, 0) := by decide
theorem test_add_1 : answer 0x00008 0xFFFFFFFFFFFFFFFFFFFFFFFFFFFFFFFF 1 = some (0, 0, false, 0) := by decide
theorem test_add_2 : answer 0x00008 0xFFFFFFFFFFFFFFFF 1 = some (0x10000000000000000, 0, false, 0) := by decide
theorem test_addc_1 : answer 0x00009 0xFFFFFFFFFFFFFFFFFFFFFFFFFFFFFFFF 1 = some (0, 0, true, 0) := by decide
theorem test_addc_2 : answer 0x00009 0x50000000000000001 0xFFFFFFFFFFFFFFFFFFFFFFFFFFFFFFFF =
    some (0x50000000000000000, 0, true, 0) := by decide
theorem test_sub_1 : answer 0x0000A 0x10000000000000000 1 = some (0xFFFFFFFFFFFFFFFF, 0, false, 0) := by decide
theorem test_sub_2 : answer 0x0000A 3 7 = some (0xFFFFFFFFFFFFFFFFFFFFFFFFFFFFFFFC, 0, false, 0) := by decide
theorem test_neg_1 : answer 0x0000B 0x80000000000000000000000000000000 0 =
    some (0x80000000000000000000000000000000, 0, false, 0) := by decide
theorem test_neg_2 : answer 0x0000B 0x7FFFFFFFFFFFFFFFFFFFFFFFFFFFFFFF 0 =
    some (0x80000000000000000000000000000001, 0, false, 0) := by decide
theorem test_negs_1 : answer 0x0000C 0x80000000000000000000000000000000 0 = some (0, 0, false, 3) := by decide
theorem test_negs_2 : answer 0x0000C 0xFFFFFFFFFFFFFFFFFFFFFFFFFFFFFFFB 0 = some (5, 0, false, 0) := by decide
theorem test_and_1 : answer 0x00010 0x123456789ABCDEFFEDCBA9876543210 0xFFFFFFFFFFFFFFFF =
    some (0xFEDCBA9876543210, 0, false, 0) := by decide
theorem test_or_1 : answer 0x00011 0x123456789ABCDEFFEDCBA9876543210 0xFFFFFFFFFFFFFFFF0000000000000000 =
    some (0xFFFFFFFFFFFFFFFFFEDCBA9876543210, 0, false, 0) := by decide
theorem test_xor_1 : answer 0x00012 0x123456789ABCDEFFEDCBA9876543210 0x123456789ABCDEFFEDCBA9876543210 =
    some (0, 0, false, 0) := by decide
theorem test_xor_2 : answer 0x00012 0x123456789ABCDEFFEDCBA9876543210 0xFFFFFFFFFFFFFFFFFFFFFFFFFFFFFFFF =
    some (0xFEDCBA98765432100123456789ABCDEF, 0, false, 0) := by decide
theorem test_not_1 : answer 0x00013 0x123456789ABCDEFFEDCBA9876543210 0 =
    some (0xFEDCBA98765432100123456789ABCDEF, 0, false, 0) := by decide
theorem test_shl_1 : answer 0x03F14 0x123456789ABCDEFFEDCBA9876543210 0 =
    some (0xFF6E5D4C3B2A19080000000000000000, 0, false, 0) := by decide
theorem test_shl_2 : answer 0x06414 0x123456789ABCDEFFEDCBA9876543210 0 =
    some (0x65432100000000000000000000000000, 0, false, 0) := by decide
theorem test_shr_1 : answer 0x00415 0x123456789ABCDEFFEDCBA9876543210 0 =
    some (0x123456789ABCDEFFEDCBA987654321, 0, false, 0) := by decide
theorem test_shr_2 : answer 0x07F15 0x80000000000000000000000000000000 0 = some (1, 0, false, 0) := by decide
theorem test_sar_1 : answer 0x07F16 0x80000000000000000000000000000000 0 =
    some (0xFFFFFFFFFFFFFFFFFFFFFFFFFFFFFFFF, 0, false, 0) := by decide
theorem test_sar_2 : answer 0x00116 0xFFFFFFFFFFFFFFFFFFFFFFFFFFFFFFF9 0 =
    some (0xFFFFFFFFFFFFFFFFFFFFFFFFFFFFFFFC, 0, false, 0) := by decide
theorem test_umul64_1 : answer 0x00018 0xFFFFFFFFFFFFFFFF 0xFFFFFFFFFFFFFFFF =
    some (0xFFFFFFFFFFFFFFFE0000000000000001, 0, false, 0) := by decide
theorem test_umul64_2 : answer 0x00018 0x70000000000000003 0x90000000000000005 = some (0xF, 0, false, 0) := by decide
theorem test_mul_1 : answer 0x00019 0xFFFFFFFFFFFFFFFFFFFFFFFFFFFFFFFF 0xFFFFFFFFFFFFFFFFFFFFFFFFFFFFFFFF =
    some (1, 0, false, 0) := by decide
theorem test_mul_2 : answer 0x00019 0x100000001 0x100000001 = some (0x10000000200000001, 0, false, 0) := by decide
theorem test_muls_1 : answer 0x0001A 0x80000000000000000000000000000000 0xFFFFFFFFFFFFFFFFFFFFFFFFFFFFFFFF =
    some (0, 0, false, 3) := by decide
theorem test_muls_2 : answer 0x0001A 0x7FFFFFFFFFFFFFFFFFFFFFFFFFFFFFFF 2 = some (2, 0, false, 0) := by decide
theorem test_divmodu_1 : answer 0x00022 0x80000000000000000000000000000000 3 =
    some (0x2AAAAAAAAAAAAAAAAAAAAAAAAAAAAAAA, 2, false, 0) := by decide
theorem test_divmodu_2 : answer 0x00022 0xFFFFFFFFFFFFFFFFFFFFFFFFFFFFFFFF 0x10000000000000000 =
    some (0xFFFFFFFFFFFFFFFF, 0xFFFFFFFFFFFFFFFF, false, 0) := by decide
theorem test_divu_1 : answer 0x00020 9 0 = some (0, 0, false, 1) := by decide
theorem test_remu_1 : answer 0x00021 0 0 = some (0, 0, false, 1) := by decide
theorem test_divu_2 : answer 0x00020 0x64 7 = some (0xE, 0, false, 0) := by decide
theorem test_remu_2 : answer 0x00021 0x64 7 = some (2, 0, false, 0) := by decide
theorem test_divmods_1 : answer 0x00025 7 0xFFFFFFFFFFFFFFFFFFFFFFFFFFFFFFFE =
    some (0xFFFFFFFFFFFFFFFFFFFFFFFFFFFFFFFD, 1, false, 0) := by decide
theorem test_divmods_2 : answer 0x00025 0x80000000000000000000000000000000 3 =
    some (0xD5555555555555555555555555555556, 0xFFFFFFFFFFFFFFFFFFFFFFFFFFFFFFFE, false, 0) := by decide
theorem test_divs_1 : answer 0x00023 0xFFFFFFFFFFFFFFFFFFFFFFFFFFFFFFF9 2 =
    some (0xFFFFFFFFFFFFFFFFFFFFFFFFFFFFFFFD, 0, false, 0) := by decide
theorem test_rems_1 : answer 0x00024 0xFFFFFFFFFFFFFFFFFFFFFFFFFFFFFFF9 2 =
    some (0xFFFFFFFFFFFFFFFFFFFFFFFFFFFFFFFF, 0, false, 0) := by decide
theorem test_divs_2 : answer 0x00023 1 0 = some (0, 0, false, 1) := by decide
theorem test_cmpu_1 : answer 0x00028 1 2 = some (0xFFFFFFFFFFFFFFFFFFFFFFFFFFFFFFFF, 0, false, 0) := by decide
theorem test_cmpu_2 : answer 0x00028 0x80000000000000000000000000000000 0x7FFFFFFFFFFFFFFFFFFFFFFFFFFFFFFF =
    some (1, 0, false, 0) := by decide
theorem test_cmps_1 : answer 0x00029 0x80000000000000000000000000000000 0x7FFFFFFFFFFFFFFFFFFFFFFFFFFFFFFF =
    some (0xFFFFFFFFFFFFFFFFFFFFFFFFFFFFFFFF, 0, false, 0) := by decide
theorem test_cmps_2 : answer 0x00029 0x10000000000000000 0xFFFFFFFFFFFFFFFF = some (1, 0, false, 0) := by decide
theorem test_sgn_1 : answer 0x0002A 0 0 = some (0, 0, false, 0) := by decide
theorem test_sgn_2 : answer 0x0002A 0x80000000000000000000000000000000 0 =
    some (0xFFFFFFFFFFFFFFFFFFFFFFFFFFFFFFFF, 0, false, 0) := by decide
theorem test_abs_1 : answer 0x0002B 0xFFFFFFFFFFFFFFFFFFFFFFFFFFFFFFFB 0 = some (5, 0, false, 0) := by decide
theorem test_abs_2 : answer 0x0002B 0x80000000000000000000000000000000 0 = some (0, 0, false, 3) := by decide
theorem test_uabs_1 : answer 0x0002C 0x80000000000000000000000000000000 0 =
    some (0x80000000000000000000000000000000, 0, false, 0) := by decide
theorem test_uabs_2 : answer 0x0002C 0x7FFFFFFFFFFFFFFFFFFFFFFFFFFFFFFF 0 =
    some (0x7FFFFFFFFFFFFFFFFFFFFFFFFFFFFFFF, 0, false, 0) := by decide
theorem test_sext_b_1 : answer 0x00030 0x80 0 = some (0xFFFFFFFFFFFFFFFFFFFFFFFFFFFFFF80, 0, false, 0) := by decide
theorem test_sext_b_2 : answer 0x00030 0x123 0 = some (0x23, 0, false, 0) := by decide
theorem test_sext_h_1 : answer 0x08030 0x8000 0 = some (0xFFFFFFFFFFFFFFFFFFFFFFFFFFFF8000, 0, false, 0) := by decide
theorem test_sext_w_1 : answer 0x10030 0xFFFFFFFF 0 =
    some (0xFFFFFFFFFFFFFFFFFFFFFFFFFFFFFFFF, 0, false, 0) := by decide
theorem test_sext_d_1 : answer 0x18030 0x8000000000000000 0 =
    some (0xFFFFFFFFFFFFFFFF8000000000000000, 0, false, 0) := by decide
theorem test_sext_d_2 : answer 0x18030 0x50000000000000001 0 = some (1, 0, false, 0) := by decide
theorem test_zext_b_1 : answer 0x00031 0x80 0 = some (0x80, 0, false, 0) := by decide
theorem test_zext_h_1 : answer 0x08031 0xFFFFFFFFFFFFFFFFFFFFFFFFFFFFFFFF 0 = some (0xFFFF, 0, false, 0) := by decide
theorem test_zext_w_1 : answer 0x10031 0xFFFFFFFFFFFFFFFFFFFFFFFFFFFFFFFF 0 =
    some (0xFFFFFFFF, 0, false, 0) := by decide
theorem test_zext_d_1 : answer 0x18031 0xFFFFFFFFFFFFFFFFFFFFFFFFFFFFFFFF 0 =
    some (0xFFFFFFFFFFFFFFFF, 0, false, 0) := by decide
theorem test_nars_b_1 : answer 0x00032 0xFFFFFFFFFFFFFFFFFFFFFFFFFFFFFF80 0 = some (0x80, 0, false, 0) := by decide
theorem test_nars_b_2 : answer 0x00032 0xFFFFFFFFFFFFFFFFFFFFFFFFFFFFFF7F 0 = some (0, 0, false, 2) := by decide
theorem test_nars_h_1 : answer 0x08032 0xFFFFFFFFFFFFFFFFFFFFFFFFFFFFFFFF 0 = some (0xFFFF, 0, false, 0) := by decide
theorem test_nars_w_1 : answer 0x10032 0x7FFFFFFF 0 = some (0x7FFFFFFF, 0, false, 0) := by decide
theorem test_nars_w_2 : answer 0x10032 0x80000000 0 = some (0, 0, false, 2) := by decide
theorem test_nars_d_1 : answer 0x18032 0x80000000000000000000000000000000 0 = some (0, 0, false, 2) := by decide
theorem test_nars_d_2 : answer 0x18032 0xFFFFFFFFFFFFFFFF8000000000000000 0 =
    some (0x8000000000000000, 0, false, 0) := by decide
theorem test_naru_b_1 : answer 0x00033 0xFF 0 = some (0xFF, 0, false, 0) := by decide
theorem test_naru_b_2 : answer 0x00033 0x100 0 = some (0, 0, false, 2) := by decide
theorem test_naru_h_1 : answer 0x08033 0xFFFF 0 = some (0xFFFF, 0, false, 0) := by decide
theorem test_naru_w_1 : answer 0x10033 0xFFFFFFFF 0 = some (0xFFFFFFFF, 0, false, 0) := by decide
theorem test_naru_d_1 : answer 0x18033 0xFFFFFFFFFFFFFFFF 0 = some (0xFFFFFFFFFFFFFFFF, 0, false, 0) := by decide
theorem test_naru_d_2 : answer 0x18033 0xFFFFFFFFFFFFFFFFFFFFFFFFFFFFFFFF 0 = some (0, 0, false, 2) := by decide

theorem test_fls_zero_faults : step (inFlight 0x02#32 0#128 0#128) = .fault .flsZeroOperand := rfl

/-! Edges: the trace of 95_test_vectors.md section 3. -/

/-- e0 and e11: reset wins over START and abandons the command in flight. -/
theorem test_reset_edge : step { inFlight 0x03#32 0#128 0#128 with inputs := [resetting] } = .next State.reset := rfl

/-- e1: acceptance. -/
theorem test_acceptance : ∃ t, step { State.reset with inputs := [starting 0x09#32 umax 1#128] } = .next t ∧
    t.cmd = 0x09#32 ∧ t.opa = umax ∧ t.opb = 1#128 ∧ t.busy = true ∧ t.done = false := ⟨_, rfl, by decide⟩

/-- e4: START while BUSY is ignored. -/
theorem test_start_while_busy :
    ∃ t, step { inFlight 0x20#32 100#128 7#128 with wait := 5, inputs := [starting 0x08#32 1#128 1#128] } = .next t ∧
      t.cmd = 0x20#32 ∧ t.opa = 100#128 ∧ t.opb = 7#128 ∧ t.busy = true ∧ t.wait = 4 := ⟨_, rfl, by decide⟩

/-- e9: completion, and 10_state.md R27: STATUS is DONE alone. -/
theorem test_completion_status : ∃ t, step (inFlight 0x20#32 100#128 7#128) = .next t ∧ t.statusOut = 0x00000002#32 ∧
    t.resOut = 14#128 := ⟨_, rfl, by decide⟩

/-- e2: ADDC's carry shows in bit 2 of STATUS. -/
theorem test_carry_status : ∃ t, step (inFlight 0x09#32 umax 1#128) = .next t ∧ t.statusOut = 0x00000006#32 :=
  ⟨_, rfl, by decide⟩

/-- e3: LAT = 6 for DIVU 100, 7; 129 is the worst case of R199. -/
theorem test_reference_latency : referenceLatency 0x20#32 100#128 7#128 = 6 ∧ referenceLatency 0x25#32 smin 1#128 = 129 ∧
    referenceLatency 0x20#32 9#128 0#128 = 1 ∧ referenceLatency 0x1A#32 smin 3#128 = 1 := by decide

theorem test_with_fetch_word : ∃ t, step (State.reset.withFetchWord 32 0x00000013) = .next t ∧ t.res = umax ∧
    t.done = true := ⟨_, rfl, by decide⟩

/-! The other methods. -/

theorem test_clz_search : clzSearch 0#64 = 64 ∧ clzSearch 1#64 = 63 ∧ clzSearch 0x80000000000000FF#64 = 0 := by decide
theorem test_shift_subtract : shiftSubtract 100#128 7#128 = (14#128, 2#128) := by decide
theorem test_mul_split : mulSplit umax umax = 1#128 := by decide
theorem test_add_words : addWords 0xFFFFFFFFFFFFFFFF#128 1#128 = 0x10000000000000000#128 := by decide
theorem test_compare_signed : compareSigned smin smax = -1 ∧ compareSigned umax smin = 1 := by decide
theorem test_byte_lane_zero_lowest : (toLanes 0x0102#128).take 2 = [2#8, 1#8] := by decide

/-! A host program's statements: 95_test_vectors.md P5 step 1 and P3's first two lines. -/

/-- A host at the start of a program, the block just out of reset. -/
def hostStart : HostState := { line := 0, vars := [], block := State.reset }

/-- What a host variable holds after one statement. -/
def variableAfter (program : List HostStmt) (h : HostState) (v : Nat) : Option Data :=
  match hostStep program h with
  | .ok g => g.variable v
  | .error _ => none

/-- `q, r := DIVMODS -7, 2`. -/
def divideLine : List HostStmt := [.assignPair 0 1 (.binary .divmods (.value (.decimal (-7))) (.value (.decimal 2)))]

theorem test_host_pair : variableAfter divideLine hostStart 0 = some (enc (-3)) ∧
    variableAfter divideLine hostStart 1 = some umax := by decide
theorem test_host_variable_operand :
    variableAfter [.assign 2 (.unary .neg (.variable 1))] (hostStart.store 1 1#128) 2 = some umax := by decide
theorem test_host_unset_variable : hostStep [.assign 2 (.mov (.variable 1))] hostStart = .error .refusedLine := by decide
theorem test_host_read_c :
    variableAfter [.readC 3] { hostStart with block := { State.reset with c := true } } 3 = some 1#128 := by decide
theorem test_host_issue_while_busy :
    hostStep divideLine { hostStart with block := inFlight 0x20#32 100#128 7#128 } = .error .issuedWhileBusy := by decide
theorem test_host_goto : hostStep [.ifGoto (.ne 1 (.named .zero)) 7, .label 7] (hostStart.store 1 5#128) =
    .ok { hostStart.store 1 5#128 with line := 1 } := by decide

/-! Witnesses. -/

/-- A schedule with RST and START at its first edge, on a block with a command in flight. -/
theorem witness_ResetEdgeResetsTheBlock : ∃ (s : State) (p : PortIn) (rest : List PortIn),
    s.inputs = p :: rest ∧ p.rst = true ∧ p.start = true ∧ s.busy = true :=
  ⟨{ inFlight 0x03#32 0#128 0#128 with inputs := [resetting] }, resetting, [], by decide⟩

theorem witness_AcceptanceLatchesTheCommand : ∃ (s : State) (p : PortIn) (rest : List PortIn),
    s.inputs = p :: rest ∧ p.rst = false ∧ p.start = true ∧ s.busy = false :=
  ⟨{ State.reset with inputs := [starting 0x09#32 umax 1#128] }, _, [], rfl, by decide⟩

theorem witness_StartWhileBusyIsIgnored_anyLevels : ∃ (s : State) (p q : PortIn), s.busy = true ∧ p.rst = false ∧
    q.rst = false ∧ p ≠ q :=
  ⟨inFlight 0x20#32 100#128 7#128, starting 0x08#32 1#128 1#128, PortIn.idle, by decide⟩

theorem witness_StartWhileBusyIsIgnored_waiting : ∃ (s : State) (p : PortIn) (rest : List PortIn), s.inputs = p :: rest ∧
    p.rst = false ∧ p.start = true ∧ s.busy = true ∧ s.wait ≠ 0 :=
  ⟨{ inFlight 0x20#32 100#128 7#128 with wait := 1, inputs := [starting 0x08#32 1#128 1#128] }, _, [], rfl, by decide⟩

theorem witness_IdleBlockHoldsItsRegisters : ∃ (n : Nat) (s : State), n = 3 ∧ s.busy = false ∧ s.inputs.length = 4 ∧
    ∀ q ∈ s.inputs.take n, q.rst = false ∧ q.start = false :=
  ⟨3, { State.reset with inputs := [PortIn.idle, PortIn.idle, PortIn.idle, resetting] }, by decide⟩

/-- More edges than the schedule holds. -/
theorem witness_IdleBlockHoldsItsRegisters_pastTheEnd : ∃ (n : Nat) (s : State), s.inputs.length < n ∧ s.busy = false ∧
    s.inputs.length = 1 ∧ ∀ q ∈ s.inputs.take n, q.rst = false ∧ q.start = false :=
  ⟨3, { State.reset with inputs := [PortIn.idle] }, by decide⟩

theorem witness_StepRunsTheDecodedCommand : ∃ (s : State) (p : PortIn) (rest : List PortIn) (i : Instr),
    s.inputs = p :: rest ∧ p.rst = false ∧ s.busy = true ∧ s.wait = 0 ∧ decode s.cmd = .cmd i :=
  ⟨inFlight 0x14#32 1#128 0#128, PortIn.idle, [], .shl 0#7, by decide⟩

theorem witness_StepRunsTheDecodedCommandUnscheduled : ∃ (s : State) (i : Instr),
    s.inputs = [] ∧ s.busy = true ∧ s.wait = 0 ∧ decode s.cmd = .cmd i :=
  ⟨{ inFlight 0x25#32 smin umax with inputs := [] }, .divmods, by decide⟩

/-- One word for each condition of R61, and words just inside them. -/
theorem witness_IllegalWordsRaiseIllegalCommand : illegalBy 0x00020008#32 ∧ illegalBy 0x00000034#32 ∧
    illegalBy 0x00000113#32 ∧ illegalBy 0x00008016#32 ∧ ¬ illegalBy 0x00007F16#32 ∧ ¬ illegalBy 0x00018033#32 := by
  unfold illegalBy; refine ⟨?_, ?_, ?_, ?_, ?_, ?_⟩ <;> decide

theorem witness_IllegalWordsRaiseIllegalCommand_accepted : ∃ (s : State) (p : PortIn) (rest : List PortIn),
    illegalBy p.cmdIn ∧ s.inputs = p :: rest ∧ p.rst = false ∧ p.start = true ∧ s.busy = false := by
  refine ⟨{ State.reset with inputs := [starting 0#32 1#128 1#128] }, starting 0#32 1#128 1#128, [], ?_, by decide⟩
  unfold illegalBy
  decide

/-- A plain row, a shift row with an amount, a convert row; a word rejected beside a shift row's open bits. -/
theorem witness_OneTableRowPerLegalWord : decode 0x00000001#32 = .cmd .clz64 ∧ decode 0x00007F14#32 = .cmd (.shl 127#7) ∧
    decode 0x00018033#32 = .cmd .naruD ∧ decode 0x00008014#32 = .illegal .widthNotZero := by decide

theorem witness_FlsFindsLastSetBit : ∃ s u v : State, s.opa = 0#128 ∧ u.opa ≠ 0#128 ∧ u.opa = 1#128 ∧ v.opa ≠ 0#128 ∧
    v.opa = minValue :=
  ⟨operands 0#128 0#128, operands 1#128 0#128, operands minValue 0#128, by decide⟩

theorem witness_FlscChecksForZero : ∃ s u v : State, s.opa = 0#128 ∧ u.opa ≠ 0#128 ∧ u.opa = 1#128 ∧ v.opa ≠ 0#128 ∧
    v.opa = minusOne :=
  ⟨operands 0#128 0#128, operands 1#128 0#128, operands minusOne 0#128, by decide⟩

theorem witness_FlsFaultIsNeverCleared : ∃ (s : State) (p : PortIn) (rest : List PortIn), s.inputs = p :: rest ∧
    rest = [resetting] ∧ p.rst = false ∧ s.busy = true ∧ s.wait = 0 ∧ s.cmd = 0x00000002#32 ∧ s.opa = 0#128 :=
  ⟨{ inFlight 0x02#32 0#128 0#128 with inputs := [PortIn.idle, resetting] }, PortIn.idle, [resetting], by decide⟩

theorem witness_FlsLaws : ∃ s u : State, s.opa ≠ 0#128 ∧ s.opa = 1#128 ∧ u.opa ≠ 0#128 ∧ u.opa = minusOne :=
  ⟨operands 1#128 0#128, operands minusOne 0#128, by decide⟩

theorem witness_NegsRaisesOnMinValue : ∃ s u : State, s.opa = minValue ∧ u.opa ≠ minValue ∧ u.opa = minValue + 1#128 :=
  ⟨operands minValue 0#128, operands (minValue + 1#128) 0#128, by decide⟩

theorem witness_ShiftLaws : ∃ n m : BitVec 7, 64 ≤ n.toNat ∧ n.toNat = 64 ∧ 64 ≤ m.toNat ∧ m.toNat = 127 :=
  ⟨64#7, 127#7, by decide⟩

/-- The raising pairs, and the pairs next to them: MONE with SMIN + 1, and SMIN twice. -/
theorem witness_MulsCorrectsTheSign : ∃ s u v w : State, (s.opa = minusOne ∧ s.opb = minValue) ∧
    (u.opa = minValue ∧ u.opb = minusOne) ∧
    ¬ (v.opa = minusOne ∧ v.opb = minValue ∨ v.opa = minValue ∧ v.opb = minusOne) ∧ v.opb = minValue + 1#128 ∧
    ¬ (w.opa = minusOne ∧ w.opb = minValue ∨ w.opa = minValue ∧ w.opb = minusOne) ∧ w.opa = w.opb :=
  ⟨operands minusOne minValue, operands minValue minusOne, operands minusOne (minValue + 1#128),
    operands minValue minValue, by decide⟩

/-- Products at both ends of the range: −2^127 and 2^127 − 1. -/
theorem witness_MulsIsExactInRange : ∃ s u : State,
    (-2 ^ 127 ≤ s.opa.toInt * s.opb.toInt ∧ s.opa.toInt * s.opb.toInt ≤ 2 ^ 127 - 1) ∧
    s.opa.toInt * s.opb.toInt = -2 ^ 127 ∧
    (-2 ^ 127 ≤ u.opa.toInt * u.opb.toInt ∧ u.opa.toInt * u.opb.toInt ≤ 2 ^ 127 - 1) ∧
    u.opa.toInt * u.opb.toInt = 2 ^ 127 - 1 :=
  ⟨operands minValue 1#128, operands (minValue + 1#128) minusOne, by decide⟩

theorem witness_UnsignedDivides : ∃ s u : State, s.opb = 0#128 ∧ u.opb ≠ 0#128 ∧ u.opb = 1#128 :=
  ⟨operands 9#128 0#128, operands umax 1#128, by decide⟩

theorem witness_SignedDividesTruncate : ∃ s u : State, s.opb = 0#128 ∧ u.opb ≠ 0#128 ∧ u.opa = minValue ∧
    u.opb = minusOne :=
  ⟨operands 9#128 0#128, operands minValue minusOne, by decide⟩

theorem witness_DivideLaws : ∃ s u : State, s.opb ≠ 0#128 ∧ (s.opa = minValue ∧ s.opb = minusOne) ∧ u.opb ≠ 0#128 ∧
    ¬ (u.opa = minValue ∧ u.opb = minusOne) ∧ u.opa = minValue :=
  ⟨operands minValue minusOne, operands minValue 1#128, by decide⟩

theorem witness_ShiftSubtractIsDivision : ∃ a b : Data, b ≠ 0#128 ∧ b = 1#128 ∧ a = minusOne := ⟨minusOne, 1#128, by decide⟩

theorem witness_SignAndAbsoluteValues : ∃ s u : State, s.opa = minValue ∧ u.opa ≠ minValue ∧ u.opa = minValue + 1#128 :=
  ⟨operands minValue 0#128, operands (minValue + 1#128) 0#128, by decide⟩

/-- The value `v` is in the range and the value next to it on the outer side is not. -/
def atBound (low high v outer : Int) : Prop :=
  ∃ s u : State, (low ≤ s.opa.toInt ∧ s.opa.toInt ≤ high) ∧ s.opa.toInt = v ∧
    ¬ (low ≤ u.opa.toInt ∧ u.opa.toInt ≤ high) ∧ u.opa.toInt = outer

theorem witness_NarsChecksTheSignedRange_low :
    atBound (-2 ^ 7) (2 ^ 7 - 1) (-2 ^ 7) (-2 ^ 7 - 1) ∧ atBound (-2 ^ 15) (2 ^ 15 - 1) (-2 ^ 15) (-2 ^ 15 - 1) ∧
    atBound (-2 ^ 31) (2 ^ 31 - 1) (-2 ^ 31) (-2 ^ 31 - 1) ∧ atBound (-2 ^ 63) (2 ^ 63 - 1) (-2 ^ 63) (-2 ^ 63 - 1) :=
  ⟨⟨operands (enc (-2 ^ 7)) 0#128, operands (enc (-2 ^ 7 - 1)) 0#128, by decide⟩,
   ⟨operands (enc (-2 ^ 15)) 0#128, operands (enc (-2 ^ 15 - 1)) 0#128, by decide⟩,
   ⟨operands (enc (-2 ^ 31)) 0#128, operands (enc (-2 ^ 31 - 1)) 0#128, by decide⟩,
   ⟨operands (enc (-2 ^ 63)) 0#128, operands (enc (-2 ^ 63 - 1)) 0#128, by decide⟩⟩

theorem witness_NarsChecksTheSignedRange_high :
    atBound (-2 ^ 7) (2 ^ 7 - 1) (2 ^ 7 - 1) (2 ^ 7) ∧ atBound (-2 ^ 15) (2 ^ 15 - 1) (2 ^ 15 - 1) (2 ^ 15) ∧
    atBound (-2 ^ 31) (2 ^ 31 - 1) (2 ^ 31 - 1) (2 ^ 31) ∧ atBound (-2 ^ 63) (2 ^ 63 - 1) (2 ^ 63 - 1) (2 ^ 63) :=
  ⟨⟨operands (enc (2 ^ 7 - 1)) 0#128, operands (enc (2 ^ 7)) 0#128, by decide⟩,
   ⟨operands (enc (2 ^ 15 - 1)) 0#128, operands (enc (2 ^ 15)) 0#128, by decide⟩,
   ⟨operands (enc (2 ^ 31 - 1)) 0#128, operands (enc (2 ^ 31)) 0#128, by decide⟩,
   ⟨operands (enc (2 ^ 63 - 1)) 0#128, operands (enc (2 ^ 63)) 0#128, by decide⟩⟩

theorem witness_NarsChecksTheSignedRange_extend : ∃ (x : Data) (n : Nat), n ∈ [8, 16, 32, 64] ∧
    -2 ^ (n - 1) ≤ x.toInt ∧ x.toInt ≤ 2 ^ (n - 1) - 1 ∧ x.toInt = -2 ^ (n - 1) :=
  ⟨enc (-2 ^ 63), 64, by decide⟩

theorem witness_NaruChecksTheUnsignedRange_low : atBound 0 (2 ^ 8 - 1) 0 (-1) ∧ atBound 0 (2 ^ 16 - 1) 0 (-1) ∧
    atBound 0 (2 ^ 32 - 1) 0 (-1) ∧ atBound 0 (2 ^ 64 - 1) 0 (-1) :=
  ⟨⟨operands 0#128 0#128, operands minusOne 0#128, by decide⟩, ⟨operands 0#128 0#128, operands minusOne 0#128, by decide⟩,
   ⟨operands 0#128 0#128, operands minusOne 0#128, by decide⟩, ⟨operands 0#128 0#128, operands minusOne 0#128, by decide⟩⟩

theorem witness_NaruChecksTheUnsignedRange_high :
    atBound 0 (2 ^ 8 - 1) (2 ^ 8 - 1) (2 ^ 8) ∧ atBound 0 (2 ^ 16 - 1) (2 ^ 16 - 1) (2 ^ 16) ∧
    atBound 0 (2 ^ 32 - 1) (2 ^ 32 - 1) (2 ^ 32) ∧ atBound 0 (2 ^ 64 - 1) (2 ^ 64 - 1) (2 ^ 64) :=
  ⟨⟨operands (enc (2 ^ 8 - 1)) 0#128, operands (enc (2 ^ 8)) 0#128, by decide⟩,
   ⟨operands (enc (2 ^ 16 - 1)) 0#128, operands (enc (2 ^ 16)) 0#128, by decide⟩,
   ⟨operands (enc (2 ^ 32 - 1)) 0#128, operands (enc (2 ^ 32)) 0#128, by decide⟩,
   ⟨operands (enc (2 ^ 64 - 1)) 0#128, operands (enc (2 ^ 64)) 0#128, by decide⟩⟩

theorem witness_NaruChecksTheUnsignedRange_extend : ∃ (x : Data) (n : Nat), n ∈ [8, 16, 32, 64] ∧ 0 ≤ x.toInt ∧
    x.toInt ≤ 2 ^ n - 1 ∧ x.toInt = 2 ^ n - 1 :=
  ⟨enc (2 ^ 64 - 1), 64, by decide⟩

/-- A completion with the carry set, and one of the same sum by ADD without it. -/
theorem witness_OnlyAddcSetsCarry : ∃ s t u v : State, respond s = .next t ∧ t.c = true ∧ respond u = .next v ∧
    v.c = false ∧ 2 ^ 128 ≤ u.opa.toNat + u.opb.toNat :=
  ⟨inFlight 0x09#32 umax 1#128, _, inFlight 0x08#32 umax 1#128, _, rfl, by decide, rfl, by decide⟩

theorem witness_OnlyDivmodWritesRes2 : ∃ s t : State, respond s = .next t ∧ t.res2 ≠ 0#128 :=
  ⟨inFlight 0x22#32 5#128 2#128, _, rfl, by decide⟩

/-! One completion with each code the block produces. -/

theorem witness_ErrorCausesAreTheTable_divideByZero : ∃ s t : State, respond s = .next t ∧ t.err = 1#3 :=
  ⟨inFlight 0x24#32 1#128 0#128, _, rfl, by decide⟩

theorem witness_ErrorCausesAreTheTable_overflow : ∃ s t : State, respond s = .next t ∧ t.err = 2#3 := by
  refine ⟨inFlight 0x33#32 umax 0#128, (inFlight 0x33#32 umax 0#128).raise .overflow, ?_, rfl⟩
  have hd : decode (inFlight 0x33#32 umax 0#128).cmd = .cmd .naruB := by decide
  simp only [respond, hd, exec, execNaruB, narrowUnsignedN]
  exact if_pos (by decide)

theorem witness_ErrorCausesAreTheTable_arithmetic : ∃ s t : State, respond s = .next t ∧ t.err = 3#3 :=
  ⟨inFlight 0x2B#32 minValue 0#128, _, rfl, by decide⟩

theorem witness_ErrorCausesAreTheTable_zeroOperand : ∃ s t : State, respond s = .next t ∧ t.err = 5#3 :=
  ⟨inFlight 0x03#32 0#128 0#128, _, rfl, by decide⟩

theorem witness_ErrorCausesAreTheTable_illegalCommand : ∃ s t : State, respond s = .next t ∧ t.err = 6#3 :=
  ⟨inFlight 0x00#32 0#128 0#128, _, rfl, by decide⟩

theorem witness_ErrorCausesAreTheTable_none : ∃ s t : State, respond s = .next t ∧ t.err = 0#3 :=
  ⟨inFlight 0x2C#32 minValue 0#128, _, rfl, by decide⟩

theorem witness_ErrorsDeliverNoResult : ∃ s t : State, respond s = .next t ∧ t.err ≠ 0#3 :=
  ⟨inFlight 0x25#32 9#128 0#128, _, rfl, by decide⟩

theorem witness_CommandsWriteOnlyTheResponse : ∃ s t : State, respond s = .next t ∧ t.res ≠ s.res :=
  ⟨inFlight 0x25#32 9#128 2#128, _, rfl, by decide⟩

/-- Two different states with the same command and operands. -/
theorem witness_ResponseDependsOnTheLatchesOnly : ∃ s t : State, s.cmd = t.cmd ∧ s.opa = t.opa ∧ s.opb = t.opb ∧ s ≠ t :=
  ⟨inFlight 0x09#32 umax 1#128, { inFlight 0x09#32 umax 1#128 with res := umax, c := true }, by decide⟩

/-- All three cases: a result, an error, the fault. -/
theorem witness_EveryCommandAnswersOrIsFlsOfZero : respond (inFlight 0x02#32 0#128 0#128) = .fault .flsZeroOperand ∧
    (∃ t, respond (inFlight 0x02#32 1#128 0#128) = .next t ∧ t.err = 0#3) ∧
    (∃ t, respond (inFlight 0x03#32 0#128 0#128) = .next t ∧ t.err ≠ 0#3) :=
  ⟨rfl, ⟨_, rfl, by decide⟩, ⟨_, rfl, by decide⟩⟩

/-- A state that holds a response, and one with a command in flight, both within the invariant and stepping. -/
theorem witness_EveryStepKeepsInvariant :
    (∃ s t : State, s.Inv ∧ s.done = true ∧ step s = .next t) ∧ ∃ s t : State, s.Inv ∧ s.busy = true ∧ step s = .next t := by
  refine ⟨⟨{ operands 1#128 2#128 with cmd := 0x08#32, res := 3#128, done := true }, _, ⟨by decide, fun _ => rfl⟩,
    by decide, rfl⟩, ⟨inFlight 0x08#32 1#128 2#128, _, ⟨by decide, fun h => ?_⟩, by decide, rfl⟩⟩
  exact absurd h (by decide)

theorem witness_AcceptedCommandCompletesAfterLat : ∃ (s : State) (p : PortIn) (rest : List PortIn) (u : State),
    (s.inputs = p :: rest ∧ p.rst = false ∧ p.start = true ∧ s.busy = false ∧
      ∀ q ∈ rest.take (latency p.cmdIn p.aIn p.bIn), q.rst = false) ∧
    0 < latency p.cmdIn p.aIn p.bIn ∧ respond { s with cmd := p.cmdIn, opa := p.aIn, opb := p.bIn } = .next u := by
  refine ⟨{ State.reset with inputs := [starting 0x22#32 5#128 2#128, starting 0x08#32 1#128 1#128] }, _,
    [starting 0x08#32 1#128 1#128], _, ⟨rfl, by decide, by decide, by decide, ?_⟩, Nat.succ_pos _, rfl⟩
  intro q hq
  rw [List.mem_singleton.1 (List.mem_of_mem_take hq)]
  decide

theorem witness_OnlyDivideLatencyDependsOnOperands :
    (∀ i, decode 0x1A#32 = .cmd i → ¬ divides i) ∧ (∀ i, decode 0x00#32 = .cmd i → ¬ divides i) := by
  constructor <;> intro i h
  · rw [show decode 0x1A#32 = .cmd .muls by decide] at h
    injection h with h
    subst h
    unfold divides
    decide
  · exact absurd h (by rw [show decode 0x00#32 = .illegal .unassignedOpcode by decide]; exact fun h => Decoded.noConfusion h)

theorem witness_ReferenceLatencyWithin129 : ∃ a b : Data, a.msb = true ∧ a = minValue ∧ b.msb = true ∧ b = minusOne :=
  ⟨minValue, minusOne, by decide⟩

theorem witness_ByteLanesRoundTrip : ∃ (l : List (BitVec 8)) (k m : Nat), l.length = 16 ∧ k < 16 ∧ k = 0 ∧ m < 16 ∧
    m = 15 :=
  ⟨List.replicate 16 0xA5#8, 0, 15, by decide⟩

theorem witness_PseudoCommandsExpand : ∃ (a b : AsmOperand) (s u : State), a.wf = true ∧ a = .decimal (-2 ^ 127) ∧
    b.wf = true ∧ b = .hex [15#4] ∧ s.opb = 0#128 ∧ s.opa = minValue ∧ u.opa = 0#128 ∧ u.opb = 0#128 :=
  ⟨_, _, operands minValue 0#128, operands 0#128 0#128, by decide, rfl, by decide, rfl, by decide⟩

/-- A line that assembles, and amounts just outside both ends. -/
theorem witness_AssemblerEmitsLegalWords : (∃ (l : AsmLine) (c : Command), assemble l = some c) ∧
    ∃ n m : Int, (n < 0 ∨ n > 127) ∧ n = -1 ∧ (m < 0 ∨ m > 127) ∧ m = 128 :=
  ⟨⟨.clr, _, rfl⟩, ⟨-1, 128, by decide⟩⟩

/-- Operands just outside each bound. -/
theorem witness_AssemblerEmitsLegalWords_operands : outOfRange (.decimal (2 ^ 128)) ∧
    outOfRange (.decimal (-2 ^ 127 - 1)) ∧ outOfRange (.hex []) ∧ outOfRange (.hex (List.replicate 33 0#4)) :=
  ⟨.inl ⟨_, rfl, by decide⟩, .inl ⟨_, rfl, by decide⟩, .inr ⟨_, rfl, by decide⟩, .inr ⟨_, rfl, by decide⟩⟩

/-- Every kind of line that carries an operand. -/
theorem witness_AssemblerEmitsLegalWords_lines : ∃ a : AsmOperand, outOfRange a ∧ carries (.unary .not a) a ∧
    carries (.binary .add a (.named .one)) a ∧ carries (.binary .add (.named .one) a) a ∧ carries (.shift .shl a 1) a ∧
    carries (.inc a) a ∧ carries (.dec a) a ∧ carries (.mov a) a ∧ carries (.cmpz a) a :=
  ⟨.decimal (2 ^ 200), .inl ⟨_, rfl, by decide⟩, by simp [carries]⟩

theorem witness_AssemblerEncodesTheAmount : ∃ (v w : Int) (n m : Nat), -2 ^ 127 ≤ v ∧ v ≤ 2 ^ 128 - 1 ∧ v = -2 ^ 127 ∧
    -2 ^ 127 ≤ w ∧ w ≤ 2 ^ 128 - 1 ∧ w = 2 ^ 128 - 1 ∧ n ≤ 127 ∧ n = 0 ∧ m ≤ 127 ∧ m = 127 :=
  ⟨-2 ^ 127, 2 ^ 128 - 1, 0, 127, by decide⟩

/-- A line of P5 on a block out of reset, for both forms of assignment. -/
theorem witness_HostAssignmentsStoreTheResponse :
    ∃ (p₁ p₂ : List HostStmt) (h : HostState) (l : Line HostOperand) (a : AsmLine) (c : Command) (t : State),
      h.fill l = some a ∧ assemble a = some c ∧ h.block.busy = false ∧ issue c h.block = .next t ∧ p₁[h.line]? = some (.assign 4 l) ∧
      0 ≠ 1 ∧ p₂[h.line]? = some (.assignPair 0 1 l) :=
  ⟨[.assign 4 (.binary .divmods (.value (.decimal (-7))) (.value (.decimal 2)))], divideLine, hostStart, _, _, _, _,
    rfl, rfl, rfl, rfl, rfl, by decide, rfl⟩

/-- The same line on a busy block, for both forms. -/
theorem witness_HostAssignmentsStoreTheResponse_busy :
    ∃ (p₁ p₂ : List HostStmt) (h : HostState) (l : Line HostOperand) (a : AsmLine) (c : Command),
      h.fill l = some a ∧ assemble a = some c ∧ h.block.busy = true ∧ p₁[h.line]? = some (.assign 4 l) ∧
      p₂[h.line]? = some (.assignPair 0 1 l) :=
  ⟨[.assign 4 (.binary .divmods (.value (.decimal (-7))) (.value (.decimal 2)))], divideLine,
    { hostStart with block := inFlight 0x20#32 100#128 7#128 }, _, _, _, rfl, rfl, rfl, rfl, rfl⟩

theorem witness_IssuedCommandIsTheEdgesAnswer : ∃ (c : Command) (s t : State), s.busy = false ∧ issue c s = .next t :=
  ⟨⟨0x02#32, some 1#128, none⟩, State.reset, _, rfl, rfl⟩

end Sys2Proof.Tests
end

section
/-! SUPPORT. Noninterference (00_scope.md R18, 10_state.md R22): what a command answers is read from the latches alone.
The idea: a response carried over to another state. `respondOn t` keeps of an outcome its response and writes it into `t`;
executing a command on `t` is carrying over what it answers on any state with the same latches. -/

namespace Sys2Proof.Proofs

open Sys2Proof.Machine Sys2Proof.Statements

/-- The outcome whose response is that of `x`, written into the state `t` as a completion edge writes it. -/
def respondOn (t : State) : Result → Result
  | .next u => .next (t.answer { res := u.res, res2 := u.res2, c := u.c, err := u.err })
  | .fault f => .fault f
  | .refused f => .refused f

@[simp] theorem respondOn_answer (s t : State) (r : Response) : respondOn t (.next (s.answer r)) = .next (t.answer r) := rfl

@[simp] theorem respondOn_fault (t : State) (f : Fault) : respondOn t (.fault f) = .fault f := rfl

@[simp] theorem respondOn_complete (s t : State) (r r2 : Data) (c : Bool) :
    respondOn t (.next (s.complete r r2 c)) = .next (t.complete r r2 c) := rfl

@[simp] theorem respondOn_raise (s t : State) (e : ErrKind) : respondOn t (.next (s.raise e)) = .next (t.raise e) := rfl

@[simp] theorem respondOn_succeed (s t : State) (r : Data) : respondOn t (succeed r s) = succeed r t := rfl

@[simp] theorem respondOn_fail (s t : State) (e : ErrKind) : respondOn t (fail e s) = fail e t := rfl

@[simp] theorem respondOn_ite (t : State) (p : Prop) [Decidable p] (x y : Result) :
    respondOn t (if p then x else y) = if p then respondOn t x else respondOn t y := apply_ite (respondOn t) p x y

/-- A command answers on `t` what it answers on any state with the operands of `t` (00_scope.md R18). The commands
with no guard come first, then those that answer by a guard on an operand; a guard reads the operands too. -/
theorem exec_eq_respondOn (i : Instr) {s t : State} (ha : s.opa = t.opa) (hb : s.opb = t.opb) :
    exec i t = respondOn t (exec i s) := by
  cases i with
  | add | sub | and | or | xor | umul64 | mul | cmpu | cmps =>
    simp only [exec, execAdd, execSub, execAnd, execOr, execXor, execUmul64, execMul, execCmpu, execCmps, ha, hb,
      respondOn_succeed]
  | clz64 | neg | not | sgn | uabs =>
    simp only [exec, execClz64, execNeg, execNot, execSgn, execUabs, ha, respondOn_succeed]
  | shl | shr | sar => simp only [exec, execShl, execShr, execSar, ha, respondOn_succeed]
  | sextB | sextH | sextW | sextD =>
    simp only [exec, execSextB, execSextH, execSextW, execSextD, signExtendN, ha, respondOn_succeed]
  | zextB | zextH | zextW | zextD =>
    simp only [exec, execZextB, execZextH, execZextW, execZextD, zeroExtendN, ha, respondOn_succeed]
  | addc => simp only [exec, execAddc, ha, hb, respondOn_complete]
  | fls | flsc | negs | abs =>
    simp only [exec, execFls, execFlsc, execNegs, execAbs, ha, respondOn_ite, respondOn_fault, respondOn_fail,
      respondOn_succeed]
  | narsB | narsH | narsW | narsD =>
    simp only [exec, execNarsB, execNarsH, execNarsW, execNarsD, narrowSignedN, ha, respondOn_ite, respondOn_fail,
      respondOn_succeed]
  | naruB | naruH | naruW | naruD =>
    simp only [exec, execNaruB, execNaruH, execNaruW, execNaruD, narrowUnsignedN, ha, respondOn_ite, respondOn_fail,
      respondOn_succeed]
  | divu | remu | divmodu | divs | rems | divmods =>
    simp only [exec, execDivu, execRemu, execDivmodu, execDivs, execRems, execDivmods, ha, hb, respondOn_ite, respondOn_fail,
      respondOn_succeed, respondOn_complete]
  | muls => simp only [exec, execMuls, ha, hb, respondOn_ite, respondOn_fail, respondOn_succeed]

/-- A completion edge answers on `t` what it answers on any state with the latches of `t`; an illegal word is rejected
before an operand is read (30_encoding.md R61). -/
theorem respond_eq_respondOn {s t : State} (hc : s.cmd = t.cmd) (ha : s.opa = t.opa) (hb : s.opb = t.opb) :
    respond t = respondOn t (respond s) := by
  unfold respond
  rw [hc]
  cases decode t.cmd with
  | cmd i => exact exec_eq_respondOn i ha hb
  | illegal why => exact (respondOn_raise s t _).symm

/-- Settles O46: the response on `t` is the one on `s` carried over, and both are completion edges (or FLS's fault). -/
theorem responseDependsOnTheLatchesOnly : Obligations.ResponseDependsOnTheLatchesOnly := by
  intro s t hc ha hb
  rw [respond_eq_respondOn hc ha hb]
  rcases respond_cases s with ⟨-, -, hs⟩ | ⟨r, hs⟩
  · rw [hs, respondOn_fault]
    exact rfl
  · rw [hs, respondOn_answer]
    exact ⟨rfl, rfl, rfl, rfl, rfl, rfl⟩

end Sys2Proof.Proofs
end

section
/-! SUPPORT. The rising edge, case by case (10_state.md R31 to R33), and the obligations on reset and the handshake. Each
lemma says what the step is under the levels that decide it; the later proofs rewrite with it. -/

namespace Sys2Proof.Proofs

open Sys2Proof.Machine Sys2Proof.Statements

/-- Acceptance (10_state.md R31). -/
theorem step_of_start {s : State} (hr : s.port.rst = false) (hst : s.port.start = true) (hb : s.busy = false) :
    step s = .next (s.advance.acceptEdge s.port) := by
  simp [step, clockEdge, hr, hst, hb]

/-- A busy block reads no level but RST (10_state.md R33). -/
theorem step_of_busy {s : State} (hr : s.port.rst = false) (hb : s.busy = true) :
    step s = if s.wait = 0 then respond s.advance else .next s.advance.waitEdge := by
  rw [step, clockEdge, if_neg (by simp [hr]), State.advance_busy, if_pos hb]
  rfl

theorem step_of_waiting {s : State} (hr : s.port.rst = false) (hb : s.busy = true) (hw : s.wait ≠ 0) :
    step s = .next s.advance.waitEdge := by
  rw [step_of_busy hr hb, if_neg hw]

theorem step_of_completing {s : State} (hr : s.port.rst = false) (hb : s.busy = true) (hw : s.wait = 0) :
    step s = respond s.advance := by
  rw [step_of_busy hr hb, if_pos hw]

theorem respond_of_decode {s : State} {i : Instr} (hd : decode s.cmd = .cmd i) : respond s = exec i s := by
  simp only [respond, hd]

theorem advance_of_cons {s : State} {p : PortIn} {rest : List PortIn} (h : s.inputs = p :: rest) :
    s.advance = { s with inputs := rest } := by
  simp [State.advance, h]

/-- An empty schedule is not moved on. -/
theorem advance_of_nil {s : State} (h : s.inputs = []) : s.advance = s := by
  cases s
  cases h
  rfl

/-- An edge past the end of the schedule is no reset. -/
theorem port_rst_of_nil {s : State} (h : s.inputs = []) : s.port.rst = false := by
  simp [State.port, h, PortIn.idle]

/-- Settles O1, by evaluating the table's fields. -/
theorem resetStateHoldsTableValues : Obligations.ResetStateHoldsTableValues :=
  ⟨rfl, rfl, rfl, rfl, rfl, rfl, rfl, rfl, rfl⟩

/-- Settles O3: the step is the acceptance edge. -/
theorem acceptanceLatchesTheCommand : Obligations.AcceptanceLatchesTheCommand := by
  intro s p rest hin hr hst hb
  rw [← State.port_of_cons hin] at hr hst ⊢
  exact ⟨_, step_of_start hr hst hb, rfl, rfl, rfl, rfl, rfl⟩

/-- Settles O4: a step of a busy block is a function of the state without its next levels; while edges remain it is the
waiting edge. -/
theorem startWhileBusyIsIgnored : Obligations.StartWhileBusyIsIgnored := by
  refine ⟨fun s p q rest hb hp hq => ?_, fun s p rest hin hr hb hw => ?_⟩
  · rw [step_of_busy (s := { s with inputs := p :: rest }) hp hb, step_of_busy (s := { s with inputs := q :: rest }) hq hb]
    exact rfl
  · rw [← State.port_of_cons hin] at hr
    exact ⟨_, step_of_waiting hr hb hw, rfl, rfl, rfl, hb, rfl⟩

/-- Settles O6: the completion edge responds, and the response to a legal word is exec. -/
theorem stepRunsTheDecodedCommand : Obligations.StepRunsTheDecodedCommand := by
  intro s p rest i hin hr hb hw hd
  rw [← State.port_of_cons hin] at hr
  rw [step_of_completing hr hb hw, respond_of_decode (s := s.advance) hd, advance_of_cons hin]

/-- Settles O7: past the schedule's end the completion edge reads idle levels and has no schedule to move on. -/
theorem stepRunsTheDecodedCommandUnscheduled : Obligations.StepRunsTheDecodedCommandUnscheduled := by
  intro s i hin hb hw hd
  rw [step_of_completing (port_rst_of_nil hin) hb hw, advance_of_nil hin, respond_of_decode hd]

/-- STATUS bit by bit from the lowest: BUSY, DONE, C, the three of ERR, zeros (10_state.md R27). -/
theorem statusOut_getLsbD (s : State) (i : Nat) :
    s.statusOut.getLsbD i = ((((0#26 ++ s.err).concat s.c).concat s.done).concat s.busy).getLsbD i := rfl

/-- Settles O8, bit by bit. -/
theorem statusWordLayout : Obligations.StatusWordLayout := by
  intro s
  refine ⟨?_, ?_, ?_, ?_, ?_⟩
  · rw [statusOut_getLsbD, BitVec.getLsbD_concat_zero]
  · rw [statusOut_getLsbD, BitVec.getLsbD_concat_succ, BitVec.getLsbD_concat_zero]
  · rw [statusOut_getLsbD, BitVec.getLsbD_concat_succ, BitVec.getLsbD_concat_succ, BitVec.getLsbD_concat_zero]
  · ext k hk
    rw [BitVec.getElem_extractLsb', statusOut_getLsbD]
    simp [BitVec.getLsbD_concat, BitVec.getLsbD_append (x := 0#26), hk]
  · ext k hk
    rw [BitVec.getElem_extractLsb', statusOut_getLsbD]
    simp [BitVec.getLsbD_concat, BitVec.getLsbD_append (x := 0#26)]

end Sys2Proof.Proofs
end

section
/-! SUPPORT. What a response holds (10_state.md R24, R25, R34): the ways a command can end, said once, and the obligations
that read C, RES2 or ERR off them. -/

namespace Sys2Proof.Proofs

open Sys2Proof.Machine Sys2Proof.Statements

/-- The ways a latched word, decoded to `d`, can end on the operands of `s` (00_scope.md R15). Only ADDC writes a carry
(10_state.md R25), only DIVMODU and DIVMODS write RES2 (R24). -/
inductive Ends (d : Decoded) (s : State) : Result → Prop
  /-- The model fault (40_bit_primitives.md R82). -/
  | faults (hd : d = .cmd .fls) (ha : s.opa = zero) : Ends d s (.fault .flsZeroOperand)
  | succeeds (r : Data) (hd : d ≠ .cmd .addc) : Ends d s (.next (s.complete r zero false))
  | raises (e : ErrKind) (hd : d ≠ .cmd .addc) : Ends d s (.next (s.raise e))
  | writesCarry (r : Data) (hd : d = .cmd .addc) : Ends d s (.next (s.complete r zero (carryOut s.opa s.opb)))
  | writesRes2 (q r : Data) (hd : d = .cmd .divmodu ∨ d = .cmd .divmods) : Ends d s (.next (s.complete q r false))

theorem Ends.ite {d : Decoded} {s : State} {p : Prop} [Decidable p] {x y : Result} (hx : p → Ends d s x)
    (hy : ¬ p → Ends d s y) : Ends d s (if p then x else y) := by
  split
  · exact hx ‹_›
  · exact hy ‹_›

theorem Ends.guarded {d : Decoded} {s : State} {p : Prop} [Decidable p] {e : ErrKind} {r : Data} (hd : d ≠ .cmd .addc) :
    Ends d s (if p then fail e s else succeed r s) :=
  .ite (fun _ => .raises e hd) (fun _ => .succeeds r hd)

/-- Every command ends in one of these ways. First the commands with no guard, then those with one. -/
theorem exec_ends (i : Instr) (s : State) : Ends (.cmd i) s (exec i s) := by
  cases i with
  | add | sub | neg | and | or | xor | not | shl | shr | sar | clz64 | umul64 | mul | cmpu | cmps | sgn | uabs =>
    exact .succeeds _ nofun
  | sextB | sextH | sextW | sextD | zextB | zextH | zextW | zextD => exact .succeeds _ nofun
  | addc => exact .writesCarry _ rfl
  | flsc | negs | divu | remu | divs | rems => exact .guarded nofun
  | narsB | narsH | narsW | narsD | naruB | naruH | naruW | naruD => exact .guarded nofun
  | fls => exact .ite (fun ha => .faults rfl ha) (fun _ => .succeeds _ nofun)
  | abs => exact .ite (fun _ => .raises _ nofun) (fun _ => .ite (fun _ => .succeeds _ nofun) (fun _ => .succeeds _ nofun))
  | divmodu => exact .ite (fun _ => .raises _ nofun) (fun _ => .writesRes2 _ _ (.inl rfl))
  | divmods => exact .ite (fun _ => .raises _ nofun) (fun _ => .writesRes2 _ _ (.inr rfl))
  | muls =>
    exact .ite (fun _ => .succeeds _ nofun) fun _ => .ite (fun _ => .succeeds _ nofun) fun _ =>
      .ite (fun _ => .succeeds _ nofun) fun _ => .ite (fun _ => .guarded nofun) fun _ =>
      .ite (fun _ => .guarded nofun) fun _ => .succeeds _ nofun

theorem respond_ends (s : State) : Ends (decode s.cmd) s (respond s) := by
  unfold respond
  cases decode s.cmd with
  | cmd i => exact exec_ends i s
  | illegal why => exact .raises _ nofun

/-- FLS on zero is the model fault (40_bit_primitives.md R82). -/
theorem respond_of_fls_of_zero {s : State} (hd : decode s.cmd = .cmd .fls) (ha : s.opa = zero) :
    respond s = .fault .flsZeroOperand := by
  rw [respond_of_decode hd]
  exact if_pos ha

theorem carryOut_eq_true_iff (a b : Data) : carryOut a b = true ↔ 2 ^ 128 ≤ a.toNat + b.toNat := by
  refine decide_eq_true_iff.trans ?_
  unfold uval
  omega

/-- Settles O41: of the ways to end only ADDC's writes C, and what it writes is the carry-out. -/
theorem onlyAddcSetsCarry : Obligations.OnlyAddcSetsCarry := by
  intro s t h
  have hends := respond_ends s
  rw [h] at hends
  cases hends with
  | succeeds r hd => simp [hd]
  | raises e hd => simp [hd]
  | writesCarry r hd => simp [hd, carryOut_eq_true_iff]
  | writesRes2 q r hd => rcases hd with hd | hd <;> simp [hd]

/-- Settles O42: every other way to end writes ZERO. -/
theorem onlyDivmodWritesRes2 : Obligations.OnlyDivmodWritesRes2 := by
  intro s t h hne
  have hends := respond_ends s
  rw [h] at hends
  cases hends with
  | succeeds | raises | writesCarry => exact absurd rfl hne
  | writesRes2 q r hd => exact hd

/-- Settles O47: away from FLS on zero every way to end answers, with ERR = NONE or with zeros. -/
theorem everyCommandAnswersOrIsFlsOfZero : Obligations.EveryCommandAnswersOrIsFlsOfZero := by
  intro s
  by_cases hz : decode s.cmd = .cmd .fls ∧ s.opa = 0#128
  · exact .inl ⟨hz.1, hz.2, respond_of_fls_of_zero hz.1 hz.2⟩
  · refine .inr ⟨hz, ?_⟩
    have hends := respond_ends s
    generalize respond s = x at hends ⊢
    cases hends with
    | faults hd ha => exact absurd ⟨hd, ha⟩ hz
    | succeeds | writesCarry | writesRes2 => exact ⟨_, rfl, .inl rfl⟩
    | raises => exact ⟨_, rfl, .inr ⟨rfl, rfl, rfl⟩⟩

end Sys2Proof.Proofs
end

section
/-! SUPPORT. The invariant (10_state.md R27). The idea: a response is read from the latches (R22), so it is the same on the
state it was written into, and on that state at a later edge. -/

namespace Sys2Proof.Proofs

open Sys2Proof.Machine Sys2Proof.Statements

/-- States with the same latches answer the same response. -/
theorem respond_eq_answer_of_latches {s t : State} {r : Response} (h : respond s = .next (s.answer r))
    (hc : s.cmd = t.cmd) (ha : s.opa = t.opa) (hb : s.opb = t.opb) : respond t = .next (t.answer r) := by
  rw [respond_eq_respondOn hc ha hb, h, respondOn_answer]

theorem exists_answer_of_respond {s t : State} (h : respond s = .next t) :
    ∃ r, t = s.answer r ∧ respond s = .next (s.answer r) := by
  rcases respond_cases s with ⟨-, -, hf⟩ | ⟨r, hr⟩
  · rw [h] at hf
    cases hf
  · rw [h] at hr
    cases hr
    exact ⟨r, rfl, h⟩

theorem inv_of_not_done {s : State} (h : s.done = false) : s.Inv := by
  simp [State.Inv, h]

/-- A completion edge sets up the invariant whatever was before. -/
theorem inv_of_respond {s t : State} (h : respond s = .next t) : t.Inv := by
  obtain ⟨r, rfl, hr⟩ := exists_answer_of_respond h
  exact ⟨by simp, fun _ => respond_eq_answer_of_latches (t := s.answer r) hr rfl rfl rfl⟩

/-- An edge that holds the registers keeps the invariant: the schedule is no part of it. -/
theorem inv_advance {s : State} (h : s.Inv) : s.advance.Inv := by
  obtain ⟨hbd, hresp⟩ := h
  refine ⟨hbd, fun hd => ?_⟩
  obtain ⟨r, hs, hr⟩ := exists_answer_of_respond (hresp hd)
  rw [respond_eq_answer_of_latches (t := s.advance) hr rfl rfl rfl, ← State.advance_answer, ← hs]

/-- A command in flight has DONE = 0 (10_state.md R27). -/
theorem not_done_of_inv {s : State} (h : s.Inv) (hb : s.busy = true) : s.done = false :=
  Bool.eq_false_iff.mpr fun hd => h.1 ⟨hb, hd⟩

/-- Settles O49, edge by edge: a reset, an acceptance and a waiting edge leave DONE = 0; a completion edge writes the
response; any other edge holds. -/
theorem everyStepKeepsInvariant : Obligations.EveryStepKeepsInvariant := by
  intro s t hinv hstep
  rcases step_cases s with ⟨-, h⟩ | ⟨-, -, -, h⟩ | ⟨-, hb, -, h⟩ | ⟨-, -, -, h⟩ | ⟨-, -, -, h⟩ <;> rw [h] at hstep
  · cases hstep
    exact inv_of_not_done rfl
  · exact inv_of_respond hstep
  · cases hstep
    have hd := not_done_of_inv hinv hb
    exact inv_of_not_done hd
  · cases hstep
    exact inv_of_not_done rfl
  · cases hstep
    exact inv_advance hinv

/-- Settles O48: after reset DONE = 0. -/
theorem resetSatisfiesInvariant : Obligations.ResetSatisfiesInvariant := inv_of_not_done rfl

end Sys2Proof.Proofs
end

section
/-! SUPPORT. Latency (10_state.md R32, R33): a command in flight through the edges it waits for, to its completion edge. -/

namespace Sys2Proof.Proofs

open Sys2Proof.Machine Sys2Proof.Statements

theorem isDivide_eq_true_iff (i : Instr) : isDivide i = true ↔ divides i := by
  cases i <;> simp [isDivide, divides]

/-- Outside the divide family the count is the word's own (70_reset_and_hazards.md R199). -/
theorem waitCycles_of_not_divides {w : CmdWord} (h : ∀ i, decode w = .cmd i → ¬ divides i) (a b : Data) :
    waitCycles w a b = Config.extraCycles w := by
  unfold waitCycles
  cases hd : decode w with
  | cmd i => exact if_neg (mt (isDivide_eq_true_iff i).mp (h i hd))
  | illegal why => exact rfl

/-- Settles O51: a latency is one more than a count, and outside the divide family the count is the word's. -/
theorem onlyDivideLatencyDependsOnOperands : Obligations.OnlyDivideLatencyDependsOnOperands := by
  refine ⟨fun w a b => Nat.le_add_left 1 _, fun w a b a' b' h => ?_⟩
  rw [latency, latency, waitCycles_of_not_divides h, waitCycles_of_not_divides h]

/-- No reset at the next `n` edges. -/
def NoReset (n : Nat) (s : State) : Prop := ∀ q ∈ s.inputs.take n, q.rst = false

theorem noReset_succ_iff (n : Nat) (s : State) : NoReset (n + 1) s ↔ s.port.rst = false ∧ NoReset n s.advance := by
  unfold NoReset State.port
  cases hin : s.inputs <;> simp [hin, PortIn.idle]

theorem NoReset.mono {m n : Nat} {s : State} (h : NoReset n s) (hmn : m ≤ n) : NoReset m s :=
  fun q hq => h q (List.take_subset_take_left _ hmn hq)

/-- The state after `n` edges on which the command in flight goes on. -/
def waitEdges : Nat → State → State
  | 0, s => s
  | n + 1, s => waitEdges n s.advance.waitEdge

/-- What waiting keeps: the latches, BUSY and DONE (10_state.md R33); the schedule moves on. -/
theorem waitEdges_keeps (n : Nat) (s : State) :
    (waitEdges n s).cmd = s.cmd ∧ (waitEdges n s).opa = s.opa ∧ (waitEdges n s).opb = s.opb ∧
      (waitEdges n s).busy = s.busy ∧ (waitEdges n s).done = s.done ∧
      (waitEdges n s).inputs = s.inputs.drop n := by
  induction n generalizing s with
  | zero => simp [waitEdges]
  | succ n ih =>
    obtain ⟨hc, ha, hb, hbusy, hdone, hin⟩ := ih s.advance.waitEdge
    simp [waitEdges, hc, ha, hb, hbusy, hdone, hin]

theorem runSteps_succ_of_step {s t : State} (h : step s = .next t) (n : Nat) : runSteps (n + 1) s = runSteps n t := by
  simp only [runSteps, h]

/-- Through fewer edges than it waits for, a command in flight goes on. -/
theorem runSteps_eq_waitEdges {n : Nat} {s : State} (hb : s.busy = true) (hw : n ≤ s.wait) (hr : NoReset n s) :
    runSteps n s = .next (waitEdges n s) := by
  induction n generalizing s with
  | zero => exact rfl
  | succ n ih =>
    obtain ⟨hport, hrest⟩ := (noReset_succ_iff n s).mp hr
    rw [runSteps_succ_of_step (step_of_waiting hport hb (by omega))]
    exact ih hb (Nat.le_sub_one_of_lt hw) hrest

theorem runSteps_one (s : State) : runSteps 1 s = step s := by
  unfold runSteps
  cases step s <;> rfl

/-- One edge after the last it waits for, a command in flight responds. -/
theorem runSteps_eq_respond {n : Nat} {s : State} (hb : s.busy = true) (hw : s.wait = n) (hr : NoReset (n + 1) s) :
    runSteps (n + 1) s = respond (waitEdges n s).advance := by
  induction n generalizing s with
  | zero =>
    obtain ⟨hport, -⟩ := (noReset_succ_iff 0 s).mp hr
    exact (runSteps_one s).trans (step_of_completing hport hb hw)
  | succ n ih =>
    obtain ⟨hport, hrest⟩ := (noReset_succ_iff (n + 1) s).mp hr
    rw [runSteps_succ_of_step (step_of_waiting hport hb (by omega))]
    exact ih hb (Nat.sub_eq_of_eq_add hw) hrest

/-- Settles O50: acceptance sets the count to LAT - 1, the edges in between wait, the next one responds. -/
theorem acceptedCommandCompletesAfterLat : Obligations.AcceptedCommandCompletesAfterLat := by
  intro s p rest hin hr hst hb hnr
  obtain rfl := State.port_of_cons hin
  have hrun (n : Nat) : runSteps (1 + n) s = runSteps n (s.advance.acceptEdge s.port) := by
    rw [Nat.add_comm, runSteps_succ_of_step (step_of_start hr hst hb)]
  have hinputs : (s.advance.acceptEdge s.port).inputs = rest := by simp [hin]
  have hreset : NoReset ((s.advance.acceptEdge s.port).wait + 1) (s.advance.acceptEdge s.port) := by
    rw [NoReset, hinputs]
    exact hnr
  refine ⟨fun k hk => ?_, fun u hu => ?_⟩
  · obtain ⟨-, -, -, hbusy, hdone, -⟩ := waitEdges_keeps k (s.advance.acceptEdge s.port)
    exact ⟨_, (hrun k).trans (runSteps_eq_waitEdges rfl (Nat.le_of_lt_succ hk) (hreset.mono hk.le)), hbusy, hdone⟩
  · obtain ⟨r, rfl, hu⟩ := exists_answer_of_respond hu
    obtain ⟨hc, ha, hb, -, -, hdrop⟩ := waitEdges_keeps _ (s.advance.acceptEdge s.port)
    refine ⟨_, (hrun _).trans ((runSteps_eq_respond rfl rfl hreset).trans
      (respond_eq_answer_of_latches hu hc.symm ha.symm hb.symm)), rfl, rfl, rfl, rfl, rfl, rfl, ?_⟩
    rw [State.answer_inputs, State.advance_inputs, hdrop, hinputs, List.tail_drop]
    rfl

end Sys2Proof.Proofs
end

section
/-! SUPPORT. Byte lanes (20_memory.md R44): which bits each lane holds, and the lanes of the pattern a buffer is read as.
The idea: a pattern is determined by its lanes and lane `k` of a buffer's pattern is its byte `k`, so both round trips are
compared lane by lane. -/

namespace Sys2Proof.Proofs

open Sys2Proof.Machine

@[simp] theorem length_toLanes (x : Data) : (toLanes x).length = 16 := by simp [toLanes]

@[simp] theorem getElem_toLanes (x : Data) {k : Nat} (hk : k < (toLanes x).length) : (toLanes x)[k] = byteLane x k := by
  simp [toLanes]

theorem byteLane_eq_ofNat (x : Data) (k : Nat) : byteLane x k = BitVec.ofNat 8 (x.toNat / 2 ^ (8 * k)) := by
  rw [byteLane, BitVec.extractLsb', Nat.shiftRight_eq_div_pow]

theorem getLsbD_byteLane (x : Data) (k : Nat) {i : Nat} (hi : i < 8) :
    (byteLane x k).getLsbD i = x.getLsbD (8 * k + i) := by
  simp [byteLane, hi]

/-- A pattern is determined by its sixteen lanes: bit `i` is bit `i % 8` of lane `i / 8`. -/
theorem eq_of_byteLane_eq {x y : Data} (h : ∀ k, k < 16 → byteLane x k = byteLane y k) : x = y := by
  refine BitVec.eq_of_getLsbD_eq fun i hi => ?_
  have hbit := congrArg (·.getLsbD (i % 8)) (h (i / 8) (by omega))
  simpa only [getLsbD_byteLane _ _ (Nat.mod_lt i (by decide)), Nat.div_add_mod] using hbit

/-- The head of a buffer fills the low eight bits and the tail stands above them, as far as the port reaches. -/
theorem getLsbD_ofLanes_cons (b : BitVec 8) (bs : List (BitVec 8)) {i : Nat} (hi : i < 128) :
    (ofLanes (b :: bs)).getLsbD i = if i < 8 then b.getLsbD i else (ofLanes bs).getLsbD (i - 8) := by
  simp only [ofLanes, BitVec.getLsbD_or, BitVec.getLsbD_shiftLeft, BitVec.getLsbD_setWidth, hi, decide_true,
    Bool.true_and]
  split
  next hlow => simp [hlow]
  next hhigh => simp [hhigh, b.getLsbD_of_ge i (Nat.le_of_not_lt hhigh)]

theorem byteLane_ofLanes_cons_zero (b : BitVec 8) (bs : List (BitVec 8)) : byteLane (ofLanes (b :: bs)) 0 = b := by
  refine BitVec.eq_of_getLsbD_eq fun i hi => ?_
  rw [getLsbD_byteLane _ _ hi, getLsbD_ofLanes_cons b bs (by omega), if_pos (by omega), Nat.mul_zero, Nat.zero_add]

theorem byteLane_ofLanes_cons_succ (b : BitVec 8) (bs : List (BitVec 8)) {k : Nat} (hk : k + 1 < 16) :
    byteLane (ofLanes (b :: bs)) (k + 1) = byteLane (ofLanes bs) k := by
  refine BitVec.eq_of_getLsbD_eq fun i hi => ?_
  have hindex : 8 * (k + 1) + i - 8 = 8 * k + i := by omega
  rw [getLsbD_byteLane _ _ hi, getLsbD_byteLane _ _ hi, getLsbD_ofLanes_cons b bs (by omega), if_neg (by omega), hindex]

theorem byteLane_ofLanes {l : List (BitVec 8)} {k : Nat} (hk : k < l.length) (h16 : k < 16) :
    byteLane (ofLanes l) k = l[k] := by
  induction l generalizing k with
  | nil => exact absurd hk (Nat.not_lt_zero k)
  | cons b bs ih =>
    cases k with
    | zero => exact byteLane_ofLanes_cons_zero b bs
    | succ k =>
      rw [byteLane_ofLanes_cons_succ b bs h16]
      exact ih (Nat.lt_of_succ_lt_succ hk) (Nat.lt_of_succ_lt h16)

theorem toLanes_ofLanes {l : List (BitVec 8)} (hl : l.length = 16) : toLanes (ofLanes l) = l := by
  refine List.ext_getElem (by simp [hl]) fun k _ hk => ?_
  rw [getElem_toLanes, byteLane_ofLanes hk (hl ▸ hk)]

theorem ofLanes_toLanes (x : Data) : ofLanes (toLanes x) = x :=
  eq_of_byteLane_eq fun k hk => by rw [byteLane_ofLanes (by simpa using hk) hk, getElem_toLanes]

/-- Settles O53: both round trips hold lane by lane, and lane `k` is the pattern shifted down by `8 * k` bits. -/
theorem byteLanesRoundTrip : Obligations.ByteLanesRoundTrip := by
  refine ⟨fun x => ⟨length_toLanes x, ofLanes_toLanes x, fun k hk => ?_⟩, fun l hl => toLanes_ofLanes hl⟩
  have hlen : k < (toLanes x).length := by simpa using hk
  rw [List.getElem?_eq_getElem hlen, getElem_toLanes, byteLane_eq_ofNat]

end Sys2Proof.Proofs
end

section
/-! SUPPORT. The fields of a command word (30_encoding.md R56) and the decoder (R61, R62). The idea: a word is its four
fields, so reading a command from it is comparing fields; what the decoder reads is found in one pass over its arms. -/

namespace Sys2Proof.Proofs

open Sys2Proof.Machine Sys2Proof.Statements

@[simp] theorem rsvField_packWord (op : BitVec 8) (n : BitVec 7) (k : BitVec 2) : rsvField (packWord op n k) = 0#15 :=
  calc rsvField (packWord op n k)
    _ = (0#15 ++ k ++ n).extractLsb' 9 15 := BitVec.extractLsb'_append_eq_of_le (by decide)
    _ = (0#15 ++ k).extractLsb' 2 15 := BitVec.extractLsb'_append_eq_of_le (by decide)
    _ = 0#15 := BitVec.extractLsb'_append_eq_left

@[simp] theorem widthField_packWord (op : BitVec 8) (n : BitVec 7) (k : BitVec 2) : widthField (packWord op n k) = k :=
  calc widthField (packWord op n k)
    _ = (0#15 ++ k ++ n).extractLsb' 7 2 := BitVec.extractLsb'_append_eq_of_le (by decide)
    _ = (0#15 ++ k).extractLsb' 0 2 := BitVec.extractLsb'_append_eq_of_le (by decide)
    _ = k := BitVec.extractLsb'_append_eq_right

@[simp] theorem shamtField_packWord (op : BitVec 8) (n : BitVec 7) (k : BitVec 2) : shamtField (packWord op n k) = n :=
  calc shamtField (packWord op n k)
    _ = (0#15 ++ k ++ n).extractLsb' 0 7 := BitVec.extractLsb'_append_eq_of_le (by decide)
    _ = n := BitVec.extractLsb'_append_eq_right

@[simp] theorem opField_packWord (op : BitVec 8) (n : BitVec 7) (k : BitVec 2) : opField (packWord op n k) = op :=
  BitVec.extractLsb'_append_eq_right

/-- A word is its four fields, the highest first. -/
theorem append_fields (w : CmdWord) : rsvField w ++ widthField w ++ shamtField w ++ opField w = w :=
  calc rsvField w ++ widthField w ++ shamtField w ++ opField w
    _ = w.extractLsb' 15 17 ++ shamtField w ++ opField w :=
      congrArg (· ++ shamtField w ++ opField w) (BitVec.extractLsb'_append_extractLsb'_eq_extractLsb' rfl)
    _ = w.extractLsb' 8 24 ++ opField w :=
      congrArg (· ++ opField w) (BitVec.extractLsb'_append_extractLsb'_eq_extractLsb' rfl)
    _ = w.extractLsb' 0 32 := BitVec.extractLsb'_append_extractLsb'_eq_extractLsb' rfl
    _ = w := BitVec.extractLsb'_eq_self

/-- The four fields fix the word. -/
theorem eq_iff_fields (v w : CmdWord) : v = w ↔ rsvField v = rsvField w ∧ opField v = opField w ∧
    shamtField v = shamtField w ∧ widthField v = widthField w := by
  refine ⟨fun h => h ▸ ⟨rfl, rfl, rfl, rfl⟩, fun ⟨hr, ho, hs, hw⟩ => ?_⟩
  rw [← append_fields v, hr, ho, hs, hw, append_fields w]

/-- The word has the fields of the command, and RSV = 0 (30_encoding.md R56). -/
structure HasFields (w : CmdWord) (i : Instr) : Prop where
  rsv : rsvField w = 0#15
  op : opField w = i.opcode
  shamt : shamtField w = i.shamt
  width : widthField w = i.widthCode

theorem hasFields_iff_and (w : CmdWord) (i : Instr) : HasFields w i ↔ rsvField w = 0#15 ∧ opField w = i.opcode ∧
    shamtField w = i.shamt ∧ widthField w = i.widthCode :=
  ⟨fun ⟨hr, ho, hs, hw⟩ => ⟨hr, ho, hs, hw⟩, fun ⟨hr, ho, hs, hw⟩ => ⟨hr, ho, hs, hw⟩⟩

theorem hasFields_iff (w : CmdWord) (i : Instr) : HasFields w i ↔ w = encode i := by
  rw [hasFields_iff_and, eq_iff_fields, encode, rsvField_packWord, opField_packWord, shamtField_packWord,
    widthField_packWord]

/-- SHL, SHR, SAR (30_encoding.md R60). -/
def shiftOpcodes : List Nat := [0x14, 0x15, 0x16]

/-- SEXT, ZEXT, NARS, NARU (30_encoding.md R60). -/
def convertOpcodes : List Nat := [0x30, 0x31, 0x32, 0x33]

/-- R61's conditions, in the decoder's terms. -/
theorem illegalBy_iff (w : CmdWord) : illegalBy w ↔
    rsvField w ≠ 0#15 ∨ (opField w).toNat ∉ assignedOpcodes.map BitVec.toNat ∨
    (shamtField w ≠ 0#7 ∧ (opField w).toNat ∉ shiftOpcodes) ∨
    (widthField w ≠ 0#2 ∧ (opField w).toNat ∉ convertOpcodes) := Iff.rfl

theorem illegalBy_of_rsv {w : CmdWord} (h : rsvField w ≠ 0#15) : illegalBy w := (illegalBy_iff w).mpr (.inl h)

theorem illegalBy_of_op {w : CmdWord} (h : (opField w).toNat ∉ assignedOpcodes.map BitVec.toNat) : illegalBy w :=
  (illegalBy_iff w).mpr (.inr (.inl h))

theorem illegalBy_of_shamt {w : CmdWord} (h : shamtField w ≠ 0#7) (hop : (opField w).toNat ∉ shiftOpcodes) :
    illegalBy w := (illegalBy_iff w).mpr (.inr (.inr (.inl ⟨h, hop⟩)))

theorem illegalBy_of_width {w : CmdWord} (h : widthField w ≠ 0#2) (hop : (opField w).toNat ∉ convertOpcodes) :
    illegalBy w := (illegalBy_iff w).mpr (.inr (.inr (.inr ⟨h, hop⟩)))

theorem opcode_mem (i : Instr) : i.opcode.toNat ∈ assignedOpcodes.map BitVec.toNat := by
  have hcontains : assignedOpcodes.contains i.opcode = true := by cases i <;> rfl
  exact List.mem_map_of_mem (List.contains_iff_mem.mp hcontains)

/-- Only a shift has an amount (30_encoding.md R66). -/
theorem opcode_mem_shiftOpcodes {i : Instr} (h : i.shamt ≠ 0#7) : i.opcode.toNat ∈ shiftOpcodes := by
  cases i with
  | shl | shr | sar => simp [Instr.opcode, shiftOpcodes]
  | _ => exact absurd rfl h

/-- Only a convert has a width (30_encoding.md R66). -/
theorem opcode_mem_convertOpcodes {i : Instr} (h : i.widthCode ≠ 0#2) : i.opcode.toNat ∈ convertOpcodes := by
  cases i with
  | sextH | sextW | sextD | zextH | zextW | zextD => decide
  | narsH | narsW | narsD | naruH | naruW | naruD => decide
  | _ => exact absurd rfl h

theorem HasFields.not_illegalBy {w : CmdWord} {i : Instr} (h : HasFields w i) : ¬ illegalBy w := by
  rw [illegalBy_iff, h.rsv, h.op, h.shamt, h.width]
  rintro (hr | hop | ⟨hs, hop⟩ | ⟨hw, hop⟩)
  · exact hr rfl
  · exact hop (opcode_mem i)
  · exact hop (opcode_mem_shiftOpcodes hs)
  · exact hop (opcode_mem_convertOpcodes hw)

/-- What the decoder can read from a word: a command whose fields the word has, or, for a word of R61, a reason. -/
inductive Reads (w : CmdWord) : Decoded → Prop
  | cmd {i : Instr} (h : HasFields w i) : Reads w (.cmd i)
  | illegal {why : Illegal} (h : illegalBy w) : Reads w (.illegal why)

/-- A `Plain` arm, for a command that is no shift and no convert (30_encoding.md R62). -/
theorem reads_plainForm {w : CmdWord} {i : Instr} (hr : rsvField w = 0#15) (hop : (opField w).toNat = i.opcode.toNat)
    (hi : i.opcode.toNat ∉ shiftOpcodes ++ convertOpcodes ∧ i.shamt = 0#7 ∧ i.widthCode = 0#2) :
    Reads w (plainForm w i) := by
  obtain ⟨hplain, hs, hw⟩ := hi
  rw [← hop, List.mem_append, not_or] at hplain
  obtain ⟨hshift, hconvert⟩ := hplain
  by_cases hs' : shamtField w = 0#7
  · by_cases hw' : widthField w = 0#2
    · rw [plainForm, if_neg (not_not.mpr hs'), if_neg (not_not.mpr hw')]
      exact .cmd ⟨hr, BitVec.eq_of_toNat_eq hop, hs'.trans hs.symm, hw'.trans hw.symm⟩
    · rw [plainForm, if_neg (not_not.mpr hs'), if_pos hw']
      exact .illegal (illegalBy_of_width hw' hconvert)
  · rw [plainForm, if_pos hs']
    exact .illegal (illegalBy_of_shamt hs' hshift)

/-- A `Shift` arm: the command of every amount has the arm's opcode (30_encoding.md R62). -/
theorem reads_shiftForm {w : CmdWord} {i : BitVec 7 → Instr} (hr : rsvField w = 0#15)
    (hop : (opField w).toNat = (i 0#7).opcode.toNat) (hconvert : (i 0#7).opcode.toNat ∉ convertOpcodes)
    (hi : ∀ n, (i n).opcode = (i 0#7).opcode ∧ (i n).shamt = n ∧ (i n).widthCode = 0#2) : Reads w (shiftForm w i) := by
  by_cases hw' : widthField w = 0#2
  · rw [shiftForm, if_neg (not_not.mpr hw')]
    obtain ⟨ho, hs, hw⟩ := hi (shamtField w)
    exact .cmd ⟨hr, (BitVec.eq_of_toNat_eq hop).trans ho.symm, hs.symm, hw'.trans hw.symm⟩
  · rw [shiftForm, if_pos hw']
    exact .illegal (illegalBy_of_width hw' (hop ▸ hconvert))

/-- A `Convert` arm: its four commands have the arm's opcode and the four widths (30_encoding.md R58, R62). -/
theorem reads_convertForm {w : CmdWord} {b h w32 d : Instr} (hr : rsvField w = 0#15)
    (hop : (opField w).toNat = b.opcode.toNat) (hshift : b.opcode.toNat ∉ shiftOpcodes)
    (hi : ∀ p ∈ [(b, 0#2), (h, 1#2), (w32, 2#2), (d, 3#2)],
      p.1.opcode = b.opcode ∧ p.1.shamt = 0#7 ∧ p.1.widthCode = p.2) :
    Reads w (convertForm w b h w32 d) := by
  by_cases hs' : shamtField w = 0#7
  · have hcmd (p : Instr × BitVec 2) (hk : widthField w = p.2)
        (hp : p ∈ [(b, 0#2), (h, 1#2), (w32, 2#2), (d, 3#2)]) : Reads w (.cmd p.1) := by
      obtain ⟨ho, hs, hw⟩ := hi p hp
      exact .cmd ⟨hr, (BitVec.eq_of_toNat_eq hop).trans ho.symm, hs'.trans hs.symm, hk.trans hw.symm⟩
    have hwidths : ∀ k : BitVec 2, k = 0#2 ∨ k = 1#2 ∨ k = 2#2 ∨ k = 3#2 := by decide
    rw [convertForm, if_neg (not_not.mpr hs')]
    rcases hwidths (widthField w) with hk | hk | hk | hk <;> rw [hk]
    · exact hcmd (b, 0#2) hk (by simp)
    · exact hcmd (h, 1#2) hk (by simp)
    · exact hcmd (w32, 2#2) hk (by simp)
    · exact hcmd (d, 3#2) hk (by simp)
  · rw [convertForm, if_pos hs']
    exact .illegal (illegalBy_of_shamt hs' (hop ▸ hshift))

/-- The decoder, arm by arm in the order of the opcodes: arms 13 to 15 are the shifts, 30 to 33 the converts, and the last
is taken by no assigned opcode. -/
theorem reads_decode (w : CmdWord) : Reads w (decode w) := by
  unfold decode
  split
  case isTrue hr => exact .illegal (illegalBy_of_rsv hr)
  case isFalse hr =>
    rw [ne_eq, not_not] at hr
    split
    case h_13 | h_14 | h_15 => exact reads_shiftForm hr ‹_› (by decide) fun _ => ⟨rfl, rfl, rfl⟩
    case h_30 | h_31 | h_32 | h_33 => exact reads_convertForm hr ‹_› (by decide) (by decide)
    case h_34 =>
      refine .illegal (illegalBy_of_op ?_)
      simp only [assignedOpcodes, List.cons_append, List.nil_append, List.map_cons, List.map_nil, BitVec.toNat_ofNat,
        List.mem_cons, List.not_mem_nil, or_false, not_or]
      and_intros <;> assumption
    all_goals exact reads_plainForm hr ‹_› (by decide)

theorem decode_encode (i : Instr) : decode (encode i) = .cmd i := by
  cases i with
  | shl n => exact Laws.RoundTrip.shl n
  | shr n => exact Laws.RoundTrip.shr n
  | sar n => exact Laws.RoundTrip.sar n
  | _ => exact rfl

theorem hasFields_of_decode {w : CmdWord} {i : Instr} (h : decode w = .cmd i) : HasFields w i := by
  have hreads := reads_decode w
  rw [h] at hreads
  cases hreads with
  | cmd hfields => exact hfields

theorem illegalBy_of_decode {w : CmdWord} {why : Illegal} (h : decode w = .illegal why) : illegalBy w := by
  have hreads := reads_decode w
  rw [h] at hreads
  cases hreads with
  | illegal hillegal => exact hillegal

/-- Settles O11: a word has the fields of the command it decodes to, and the fields fix the word. -/
theorem decodeInvertsEncode : Obligations.DecodeInvertsEncode := fun w i =>
  ⟨fun h => (hasFields_iff w i).mp (hasFields_of_decode h), fun h => h ▸ decode_encode i⟩

/-- The decoder rejects exactly the words of 30_encoding.md R61. -/
theorem exists_decode_eq_illegal_iff (w : CmdWord) : (∃ why, decode w = .illegal why) ↔ illegalBy w := by
  cases hd : decode w with
  | cmd i => exact ⟨nofun, fun h => absurd h (hasFields_of_decode hd).not_illegalBy⟩
  | illegal why => exact ⟨fun _ => illegalBy_of_decode hd, fun _ => ⟨why, rfl⟩⟩

/-- Settles O9: the decoder rejects the word before an operand is read; acceptance does not look at it (R31). -/
theorem illegalWordsRaiseIllegalCommand : Obligations.IllegalWordsRaiseIllegalCommand := by
  refine ⟨fun s h => ?_, fun s p rest _ hin hr hst hb => ?_, fun w h => ?_⟩
  · obtain ⟨why, hd⟩ := (exists_decode_eq_illegal_iff s.cmd).mpr h
    rw [respond, hd]
    exact rfl
  · obtain ⟨t, hstep, hcmd, -, -, hbusy, hdone⟩ := acceptanceLatchesTheCommand s p rest hin hr hst hb
    exact ⟨t, hstep, hcmd, hbusy, hdone⟩
  · cases hd : decode w with
    | cmd i => exact ⟨i, rfl⟩
    | illegal why => exact absurd (illegalBy_of_decode hd) h

end Sys2Proof.Proofs
end

section
/-! SUPPORT. The opcode table (30_encoding.md R62). The idea: a row matches exactly the words that decode to its command, so
the rows that match a word are counted by counting its command among the rows' commands, where each stands once. -/

namespace Sys2Proof.Proofs

open Sys2Proof.Machine Sys2Proof.Statements

theorem rsvField_and (v w : CmdWord) : rsvField (v &&& w) = rsvField v &&& rsvField w := BitVec.extractLsb'_and

theorem opField_and (v w : CmdWord) : opField (v &&& w) = opField v &&& opField w := BitVec.extractLsb'_and

theorem shamtField_and (v w : CmdWord) : shamtField (v &&& w) = shamtField v &&& shamtField w := BitVec.extractLsb'_and

theorem widthField_and (v w : CmdWord) : widthField (v &&& w) = widthField v &&& widthField w := BitVec.extractLsb'_and

/-- A row of the opcode table: mask, match, command of an amount. -/
abbrev Row := CmdWord × CmdWord × (BitVec 7 → Instr)

/-- A row's mask keeps RSV, OP and W. -/
theorem row_mask : ∀ r ∈ tableRows, rsvField r.1 = BitVec.allOnes 15 ∧ opField r.1 = BitVec.allOnes 8 ∧
    widthField r.1 = BitVec.allOnes 2 ∧ rsvField r.2.1 = 0#15 := by decide

/-- A row's match holds OP and W of its command, and the row leaves the amount open exactly when its command takes one. -/
theorem row_fields {r : Row} (hr : r ∈ tableRows) (n : BitVec 7) :
    opField r.2.1 = (r.2.2 n).opcode ∧ widthField r.2.1 = (r.2.2 n).widthCode ∧
      (n &&& shamtField r.1 = shamtField r.2.1 ↔ n = (r.2.2 n).shamt) := by
  have hones : n &&& 127#7 = n := BitVec.and_allOnes
  fin_cases hr <;> exact ⟨rfl, rfl, by simp [shamtField, Instr.shamt, hones]⟩

theorem row_matches_iff {r : Row} (hr : r ∈ tableRows) (w : CmdWord) :
    w &&& r.1 = r.2.1 ↔ decode w = .cmd (r.2.2 (shamtField w)) := by
  obtain ⟨hrmask, homask, hwmask, hrmatch⟩ := row_mask r hr
  obtain ⟨ho, hw, hs⟩ := row_fields hr (shamtField w)
  rw [decodeInvertsEncode, ← hasFields_iff, hasFields_iff_and, eq_iff_fields, rsvField_and, opField_and, shamtField_and,
    widthField_and, hrmask, homask, hwmask, hrmatch, ho, hw, hs]
  simp only [BitVec.and_allOnes]

/-- The rows' commands of an amount. -/
def rowCommands (n : BitVec 7) : List Instr := tableRows.map fun r => r.2.2 n

/-- Every command stands in the table, beside the other rows' commands of its amount. -/
theorem mem_rowCommands (i : Instr) : i ∈ rowCommands i.shamt := by
  cases i with
  | shl | shr | sar => simp [rowCommands, tableRows, Instr.shamt]
  | _ => decide

/-- Two rows differ in OP or W (30_encoding.md R60). -/
theorem nodup_rowFields : (tableRows.map fun r => (opField r.2.1, widthField r.2.1)).Nodup := by decide

theorem nodup_rowCommands (n : BitVec 7) : (rowCommands n).Nodup := by
  have hfields : (rowCommands n).map (fun i => (i.opcode, i.widthCode)) =
      tableRows.map fun r => (opField r.2.1, widthField r.2.1) := rfl
  exact List.Nodup.of_map _ (hfields.symm ▸ nodup_rowFields)

theorem countP_matches_of_decode {w : CmdWord} {i : Instr} (h : decode w = .cmd i) :
    tableRows.countP (fun r => w &&& r.1 == r.2.1) = 1 := by
  have hshamt : shamtField w = i.shamt := (hasFields_of_decode h).shamt
  calc tableRows.countP (fun r => w &&& r.1 == r.2.1)
    _ = tableRows.countP (fun r => r.2.2 i.shamt == i) := List.countP_congr fun r hr => by
      rw [beq_iff_eq, beq_iff_eq, row_matches_iff hr, h, hshamt, Decoded.cmd.injEq, eq_comm]
    _ = (rowCommands i.shamt).count i := by rw [rowCommands, List.count, List.countP_map]; rfl
    _ = 1 := List.count_eq_one_of_mem (nodup_rowCommands _) (mem_rowCommands i)

theorem countP_matches_of_illegal {w : CmdWord} {why : Illegal} (h : decode w = .illegal why) :
    tableRows.countP (fun r => w &&& r.1 == r.2.1) = 0 := by
  refine List.countP_eq_zero.mpr fun r hr hmatch => ?_
  rw [beq_iff_eq, row_matches_iff hr, h] at hmatch
  cases hmatch

theorem exists_row_of_decode {w : CmdWord} {i : Instr} (h : decode w = .cmd i) :
    ∃ r ∈ tableRows, w &&& r.1 = r.2.1 ∧ r.2.2 (shamtField w) = i := by
  have hshamt : shamtField w = i.shamt := (hasFields_of_decode h).shamt
  obtain ⟨r, hr, hri⟩ := List.mem_map.mp (mem_rowCommands i)
  rw [← hshamt] at hri
  exact ⟨r, hr, (row_matches_iff hr w).mpr (hri ▸ h), hri⟩

/-- Settles O10: a row matches exactly the words that decode to its command. -/
theorem oneTableRowPerLegalWord : Obligations.OneTableRowPerLegalWord := fun w =>
  ⟨fun _ h => ⟨countP_matches_of_decode h, exists_row_of_decode h⟩, fun _ h => countP_matches_of_illegal h,
    exists_decode_eq_illegal_iff w⟩

/-- Settles O12, by evaluating the decoder. -/
theorem specWordsDecode : Obligations.SpecWordsDecode := by
  unfold Obligations.SpecWordsDecode
  decide

end Sys2Proof.Proofs
end

section
/-! SUPPORT. The assembler (30_encoding.md R63, R65, R66): which lines it refuses, and that what it emits is always the word
of a command. -/

namespace Sys2Proof.Proofs

open Sys2Proof.Machine Sys2Proof.Statements

theorem assemble_of_wf {l : AsmLine} (h : l.wf = true) : assemble l = some (expandLine l) := if_pos h

theorem assemble_of_not_wf {l : AsmLine} (h : ¬ l.wf = true) : assemble l = none := if_neg h

theorem exists_word_eq_encode (l : AsmLine) : ∃ i, (expandLine l).word = encode i := by
  cases l <;> exact ⟨_, rfl⟩

theorem not_illegalBy_encode (i : Instr) : ¬ illegalBy (encode i) := (hasFields_of_decode (decode_encode i)).not_illegalBy

/-- 30_encoding.md R63's ranges are the operands' well-formedness. -/
theorem not_wf_of_outOfRange {a : AsmOperand} (h : outOfRange a) : ¬ a.wf = true := by
  rcases h with ⟨v, rfl, hv⟩ | ⟨digits, rfl, hlen⟩ <;> rw [AsmOperand.wf, decide_eq_true_iff] <;> omega

/-- A well-formed line carries well-formed operands only. -/
theorem wf_of_carries {l : AsmLine} {a : AsmOperand} (hc : carries l a) (hl : l.wf = true) : a.wf = true := by
  rcases hc with ⟨i, rfl⟩ | ⟨i, b, rfl⟩ | ⟨i, b, rfl⟩ | ⟨m, n, rfl⟩ | rfl | rfl | rfl | rfl
  · exact Bool.and_elim_right hl
  · exact Bool.and_elim_right (Bool.and_elim_left hl)
  · exact Bool.and_elim_right hl
  · exact Bool.and_elim_left hl
  all_goals exact hl

/-- Settles O56: an emitted word is the word of a command; each refused line is not well formed. -/
theorem assemblerEmitsLegalWords : Obligations.AssemblerEmitsLegalWords := by
  refine ⟨fun l c h => ?_, fun l a hc ha => ?_, fun m a n hn => ?_⟩
  · rw [assemble, Option.ite_none_right_eq_some] at h
    obtain ⟨-, hc⟩ := h
    obtain ⟨i, hi⟩ := exists_word_eq_encode l
    rw [← Option.some.inj hc, hi]
    exact not_illegalBy_encode i
  · exact assemble_of_not_wf fun hl => not_wf_of_outOfRange ha (wf_of_carries hc hl)
  · refine assemble_of_not_wf fun hl => ?_
    have hrange : 0 ≤ n ∧ n ≤ 127 := of_decide_eq_true (Bool.and_elim_right hl)
    omega

theorem toNat_append_eq {m n : Nat} (x : BitVec m) (y : BitVec n) : (x ++ y).toNat = x.toNat * 2 ^ n + y.toNat := by
  rw [BitVec.toNat_append, ← Nat.shiftLeft_add_eq_or_of_lt y.isLt, Nat.shiftLeft_eq]

/-- A word's value is the sum of its fields at their places (30_encoding.md R56). -/
theorem toNat_packWord (op : BitVec 8) (n : BitVec 7) (k : BitVec 2) :
    (packWord op n k).toNat = k.toNat * 2 ^ 15 + n.toNat * 2 ^ 8 + op.toNat :=
  calc (packWord op n k).toNat
    _ = (((0#15).toNat * 2 ^ 2 + k.toNat) * 2 ^ 7 + n.toNat) * 2 ^ 8 + op.toNat := by
      rw [← toNat_append_eq, ← toNat_append_eq, ← toNat_append_eq]
      rfl
    _ = k.toNat * 2 ^ 15 + n.toNat * 2 ^ 8 + op.toNat := by
      rw [BitVec.toNat_zero]
      omega

/-- A shift's word is `s<<8 | OP` (30_encoding.md R63). -/
theorem packWord_ofInt_eq_ofNat (op : BitVec 8) {n : Nat} (hn : n ≤ 127) :
    packWord op (BitVec.ofInt 7 n) 0#2 = BitVec.ofNat 32 (n * 2 ^ 8 + op.toNat) := by
  have hop := op.isLt
  apply BitVec.eq_of_toNat_eq
  rw [toNat_packWord, BitVec.toNat_zero, BitVec.ofInt_natCast, BitVec.toNat_ofNat, BitVec.toNat_ofNat]
  omega

theorem wf_shift {v : Int} {n : Nat} (hv : -2 ^ 127 ≤ v) (hv' : v ≤ 2 ^ 128 - 1) (hn : n ≤ 127) (m : ShiftMnemonic) :
    (Line.shift m (.decimal v) (n : Int)).wf = true := by
  simp only [Line.wf, AsmOperand.wf, Bool.and_eq_true, decide_eq_true_iff]
  omega

/-- Settles O57: the line is well formed, and its word is the sum of its fields. -/
theorem assemblerEncodesTheAmount : Obligations.AssemblerEncodesTheAmount := by
  intro v n hv hv' hn
  have hline (m : ShiftMnemonic) (op : BitVec 8) (hop : ∀ k, encode (shiftInstr m k) = packWord op k 0#2) :
      assemble (.shift m (.decimal v) n) =
        some ⟨BitVec.ofNat 32 (n * 2 ^ 8 + op.toNat), some (BitVec.ofInt 128 v), none⟩ := by
    rw [assemble_of_wf (wf_shift hv hv' hn m), expandLine, hop, packWord_ofInt_eq_ofNat op hn]
    rfl
  exact ⟨hline .shl 0x14#8 fun _ => rfl, hline .shr 0x15#8 fun _ => rfl, hline .sar 0x16#8 fun _ => rfl⟩

theorem threeWay_zero (x : Int) : threeWay x 0 = x.sign := by
  unfold threeWay
  rcases lt_trichotomy x 0 with h | rfl | h
  · rw [if_pos h, Int.sign_eq_neg_one_of_neg h]
  · rfl
  · rw [if_neg h.not_gt, if_pos h, Int.sign_eq_one_of_pos h]

/-- CMPZ answers what SGN answers (30_encoding.md R65, 45_compare_sign.md R142). -/
theorem exec_cmps_of_zero {s : State} (h : s.opb = 0#128) : exec .cmps s = exec .sgn s := by
  have hsval : sval s.opb = 0 := by rw [h]; decide
  simp only [exec, execCmps, execSgn, hsval, threeWay_zero, sign_eq]

theorem exec_or_of_zero {s : State} (h : s.opb = 0#128) : exec .or s = succeeds s s.opa 0#128 false := by
  simp only [exec, execOr, h, BitVec.or_zero]
  rfl

theorem exec_xor_of_zero {s : State} (ha : s.opa = 0#128) (hb : s.opb = 0#128) :
    exec .xor s = succeeds s 0#128 0#128 false := by
  simp only [exec, execXor, ha, hb, BitVec.xor_zero]
  rfl

/-- Settles O55: on well-formed operands the assembler expands the line, and a zero operand leaves the other one. -/
theorem pseudoCommandsExpand : Obligations.PseudoCommandsExpand :=
  ⟨fun _ h => ⟨assemble_of_wf h, assemble_of_wf h, assemble_of_wf h, assemble_of_wf h⟩, rfl,
    fun _ h => ⟨exec_or_of_zero h, exec_cmps_of_zero h⟩, fun _ ha hb => exec_xor_of_zero ha hb⟩

end Sys2Proof.Proofs
end

section
/-! SUPPORT. Host programs (30_encoding.md R64): what a store leaves in the variables, and a command issued by a host program
compared with the block's edges. -/

namespace Sys2Proof.Proofs

open Sys2Proof.Machine Sys2Proof.Statements

theorem variable_store_same (h : HostState) (v : Nat) (x : Data) : (h.store v x).variable v = some x :=
  List.lookup_cons_self

theorem variable_store_of_ne {u v : Nat} (hne : u ≠ v) (h : HostState) (x : Data) :
    (h.store v x).variable u = h.variable u := by
  rw [HostState.variable, HostState.store, List.lookup_cons, beq_false_of_ne hne]
  rfl

theorem fill_bind_assemble {h : HostState} {l : Line HostOperand} {a : AsmLine} {c : Command} (hl : h.fill l = some a)
    (ha : assemble a = some c) : (h.fill l).bind assemble = some c := Option.bind_eq_some_iff.mpr ⟨a, hl, ha⟩

/-- A line whose command an idle block answers runs (30_encoding.md R64). -/
theorem run_of_issue {h : HostState} {l : Line HostOperand} {c : Command} {t : State}
    (hc : (h.fill l).bind assemble = some c) (hb : h.block.busy = false) (ht : issue c h.block = .next t)
    (use : State → HostState) : h.run l use = .ok (use t) := by
  simp [HostState.run, hc, hb, ht]

theorem hostStep_assign {program : List HostStmt} {h : HostState} {v : Nat} {l : Line HostOperand}
    (hp : program[h.line]? = some (.assign v l)) :
    hostStep program h = h.run l fun t => { (h.store v t.res).advance with block := t } := by
  simp only [hostStep, hp]

theorem hostStep_assignPair {program : List HostStmt} {h : HostState} {q r : Nat} {l : Line HostOperand}
    (hp : program[h.line]? = some (.assignPair q r l)) : hostStep program h =
      h.run l fun t => { ((h.store q t.res).store r t.res2).advance with block := t } := by
  simp only [hostStep, hp]

/-- Settles O58: an assignment runs its line and stores the answer, and a later store to another variable keeps it. -/
theorem hostAssignmentsStoreTheResponse : Obligations.HostAssignmentsStoreTheResponse := by
  refine ⟨fun program h l a c t hl ha hb ht => ?_, fun program h l a c hl ha hb hp => ?_⟩
  · have hc := fill_bind_assemble hl ha
    refine ⟨fun v hp => ?_, fun q r hqr hp => ?_⟩
    · exact ⟨_, (hostStep_assign hp).trans (run_of_issue hc hb ht _), variable_store_same h v _,
        fun u hu => variable_store_of_ne hu h _, rfl, rfl⟩
    · exact ⟨_, (hostStep_assignPair hp).trans (run_of_issue hc hb ht _),
        (variable_store_of_ne hqr _ _).trans (variable_store_same h q _), variable_store_same _ r _,
        fun u hq hr => (variable_store_of_ne hr _ _).trans (variable_store_of_ne hq h _), rfl, rfl⟩
  · have hc := fill_bind_assemble hl ha
    rcases hp with ⟨v, hp⟩ | ⟨q, r, hp⟩
    · rw [hostStep_assign hp, HostState.run_busy hc hb]
    · rw [hostStep_assignPair hp, HostState.run_busy hc hb]

/-- Settles O59: issuing is the response to the accepted latches, which the edges reach after LAT (O50), with nothing
scheduled in between. -/
theorem issuedCommandIsTheEdgesAnswer : Obligations.IssuedCommandIsTheEdgesAnswer := by
  intro c s t hb hissue
  obtain ⟨r, rfl, hr⟩ := exists_answer_of_respond hissue
  obtain ⟨-, hdone⟩ := acceptedCommandCompletesAfterLat { s with inputs := [startPort c s.free] } (startPort c s.free) []
    rfl rfl rfl hb nofun
  obtain ⟨u, hrun, hbusy, hd, hres, hres2, hcarry, herr, -⟩ := hdone _ (respond_eq_answer_of_latches hr rfl rfl rfl)
  exact ⟨u, hrun, hres, hres2, hcarry, herr, hbusy, hd⟩

end Sys2Proof.Proofs
end

section
/-! SUPPORT. Leading zeros and the bit primitives (40_bit_primitives.md). The idea: the leading zeros of a pattern are those
of its upper part, or, where that part is 0, its width and those of the lower part. FLS reads the two words of OPA by this
(R82). -/

namespace Sys2Proof.Proofs

open Sys2Proof.Machine Sys2Proof.Statements

theorem leadingZerosBelow_congr {m n : Nat} {v : BitVec m} {w : BitVec n} {k : Nat}
    (h : ∀ i < k, v.getLsbD i = w.getLsbD i) : leadingZerosBelow v k = leadingZerosBelow w k := by
  induction k with
  | zero => rfl
  | succ k ih => rw [leadingZerosBelow, leadingZerosBelow, h k k.lt_succ_self, ih fun i hi => h i (Nat.lt_succ_of_lt hi)]

/-- Counting from bit `n + k` of `x ++ y`: the `k` lowest bits of `x` come first, then `y`. -/
theorem leadingZerosBelow_append {m n : Nat} (x : BitVec m) (y : BitVec n) (k : Nat) : leadingZerosBelow (x ++ y) (n + k) =
    if leadingZerosBelow x k = k then k + leadingZeros y else leadingZerosBelow x k := by
  induction k with
  | zero =>
    have hlow : leadingZerosBelow (x ++ y) n = leadingZeros y :=
      leadingZerosBelow_congr fun i hi => by rw [BitVec.getLsbD_append, if_pos hi]
    simp [hlow, leadingZerosBelow]
  | succ k ih =>
    have hbit : (x ++ y).getLsbD (n + k) = x.getLsbD k := by simp [BitVec.getLsbD_append]
    rw [← Nat.add_assoc, leadingZerosBelow, leadingZerosBelow, hbit, ih]
    by_cases hset : x.getLsbD k = true
    · simp [hset]
    · simp only [hset, Bool.false_eq_true, if_false, Nat.succ_inj]
      split <;> omega

theorem leadingZeros_append {m n : Nat} (x : BitVec m) (y : BitVec n) :
    leadingZeros (x ++ y) = if x = 0#m then m + leadingZeros y else leadingZeros x := by
  simp only [← leadingZeros_eq_width_iff x]
  exact (congrArg (leadingZerosBelow (x ++ y)) (Nat.add_comm m n)).trans (leadingZerosBelow_append x y m)

/-- `FLS(x) = 127 − clz128(x)` (40_bit_primitives.md R84). -/
theorem flsIndex_eq_sub_leadingZeros (x : Data) : flsIndex x = 127 - leadingZeros x := by
  have hwords : leadingZeros x = if hi x = 0 then 64 + clz64 (lo x) else clz64 (hi x) :=
    (congrArg leadingZeros (ofWords_hi_lo x).symm).trans (leadingZeros_append (hi x) (lo x))
  rw [flsIndex, hwords, ite_not]
  split
  · exact Nat.sub_sub 127 64 _
  · rfl

theorem shiftRight_flsIndex {x : Data} (h : x ≠ 0#128) : x >>> flsIndex x = 1#128 := by
  obtain ⟨hle, hlt⟩ := flsIndex_spec h
  apply BitVec.eq_of_toNat_eq
  rw [BitVec.toNat_ushiftRight, Nat.shiftRight_eq_div_pow]
  exact Nat.div_eq_of_lt_le ((Nat.one_mul _).trans_le hle) (hlt.trans_eq Nat.pow_succ')

theorem succeed_enc_natCast (n : Nat) (s : State) : succeed (enc n) s = succeeds s (BitVec.ofNat 128 n) 0#128 false := by
  rw [enc_natCast]
  rfl

theorem exec_clz64 (s : State) : exec .clz64 s = succeeds s (BitVec.ofNat 128 (clz64 (lo s.opa))) 0#128 false :=
  succeed_enc_natCast _ s

theorem exec_fls_of_zero {s : State} (h : s.opa = 0#128) : exec .fls s = .fault .flsZeroOperand := if_pos h

theorem exec_flsc_of_zero {s : State} (h : s.opa = 0#128) : exec .flsc s = raises s 5#3 := if_pos h

theorem exec_fls_of_ne_zero {s : State} (h : s.opa ≠ 0#128) :
    exec .fls s = succeeds s (BitVec.ofNat 128 (flsIndex s.opa)) 0#128 false :=
  (if_neg h).trans (succeed_enc_natCast _ s)

theorem exec_flsc_of_ne_zero {s : State} (h : s.opa ≠ 0#128) :
    exec .flsc s = succeeds s (BitVec.ofNat 128 (flsIndex s.opa)) 0#128 false :=
  (if_neg h).trans (succeed_enc_natCast _ s)

theorem getLsbD_lo (x : Data) {i : Nat} (h : i < 64) : (lo x).getLsbD i = x.getLsbD i := by
  simp [lo, h]

/-- Settles O13: the bits of the low word are those of OPA, zeros down from the top and then a 1. -/
theorem clz64CountsLeadingZeros : Obligations.Clz64CountsLeadingZeros := by
  refine ⟨rfl, fun s => ⟨clz64 (lo s.opa), clz64_le _, exec_clz64 s, fun k hlow hk => ?_, fun hn => ?_⟩⟩
  · rw [← getLsbD_lo s.opa hk]
    exact leadingZerosBelow_high (lo s.opa) 64 k hlow hk
  · rw [← getLsbD_lo s.opa (by omega)]
    exact leadingZerosBelow_top (lo s.opa) 64 hn

/-- Settles O14, with the index of the last set bit. -/
theorem flsFindsLastSetBit : Obligations.FlsFindsLastSetBit :=
  ⟨rfl, fun s => ⟨exec_fls_of_zero, fun h => ⟨flsIndex s.opa, flsIndex_le _, exec_fls_of_ne_zero h, flsIndex_spec h⟩⟩⟩

/-- Settles O17, with the same index. -/
theorem flsLaws : Obligations.FlsLaws := fun s h =>
  ⟨flsIndex s.opa, exec_fls_of_ne_zero h, exec_flsc_of_ne_zero h, flsIndex_le _, shiftRight_flsIndex h,
    flsIndex_eq_sub_leadingZeros _⟩

/-- Settles O15: away from zero FLSC answers what FLS answers. -/
theorem flscChecksForZero : Obligations.FlscChecksForZero :=
  ⟨rfl, fun s => ⟨exec_flsc_of_zero, fun h => ⟨flsIndex s.opa, flsIndex_le _, exec_flsc_of_ne_zero h,
    (exec_fls_of_ne_zero h).trans (exec_flsc_of_ne_zero h).symm, flsIndex_spec h⟩⟩⟩

end Sys2Proof.Proofs
end

section
/-! SUPPORT. The narrowing search (40_bit_primitives.md R81). The idea: a probe of `k` bits keeps the count plus the leading
zeros of the bits still looked at, and leaves the top `k` of them in place of the top `2k`. -/

namespace Sys2Proof.Proofs

open Sys2Proof.Machine

/-- The top `k` bits of a word. -/
def topBits (k : Nat) (w : Word64) : BitVec k := w.extractLsb' (64 - k) k

theorem toNat_topBits {k : Nat} (hk : k ≤ 64) (w : Word64) : (topBits k w).toNat = (w >>> (64 - k)).toNat := by
  have hlt : w.toNat / 2 ^ (64 - k) < 2 ^ k := by
    rw [Nat.div_lt_iff_lt_mul (by positivity), ← Nat.pow_add, Nat.add_sub_cancel' hk]
    exact w.isLt
  rw [topBits, BitVec.extractLsb'_toNat, BitVec.toNat_ushiftRight, Nat.shiftRight_eq_div_pow, Nat.mod_eq_of_lt hlt]

theorem shiftRight_eq_zero_iff_topBits {k : Nat} (hk : k ≤ 64) (w : Word64) : w >>> (64 - k) = 0 ↔ topBits k w = 0#k := by
  rw [← BitVec.toNat_inj, ← BitVec.toNat_inj, toNat_topBits hk, BitVec.toNat_zero]
  rfl

/-- Shifting out the top `k` bits brings the next `k` to the top. -/
theorem topBits_add {k : Nat} (hk : k + k ≤ 64) (w : Word64) : topBits (k + k) w = topBits k w ++ topBits k (w <<< k) := by
  have hnext : topBits k (w <<< k) = w.extractLsb' (64 - (k + k)) k := by
    refine BitVec.eq_of_getLsbD_eq fun i hi => ?_
    have hindex : 64 - k + i - k = 64 - (k + k) + i := by omega
    have hlow : 64 - k + i < 64 := by omega
    have hge : ¬ 64 - k + i < k := by omega
    rw [topBits, BitVec.getLsbD_extractLsb', BitVec.getLsbD_extractLsb', BitVec.getLsbD_shiftLeft, hindex]
    simp only [hlow, hge, decide_true, decide_false, Bool.not_false, Bool.true_and]
  rw [hnext]
  exact (BitVec.extractLsb'_append_extractLsb'_eq_extractLsb' (by omega)).symm

/-- What a probe of `k` bits keeps: the count, and the leading zeros still to be found, now among `k` bits in place of `2k`. -/
theorem clzProbe_spec {k : Nat} (hk : k + k ≤ 64) (p : Nat × Word64) :
    (clzProbe k p).1 + leadingZeros (topBits k (clzProbe k p).2) = p.1 + leadingZeros (topBits (k + k) p.2) := by
  rw [topBits_add hk, leadingZeros_append, clzProbe]
  simp only [shiftRight_eq_zero_iff_topBits (show k ≤ 64 by omega)]
  split_ifs
  · exact Nat.add_assoc _ _ _
  · rfl

/-- The table of 40_bit_primitives.md R81 holds the leading zeros of each nibble. -/
theorem clzTable_eq_leadingZeros : ∀ v : BitVec 4, clzTable.getD v.toNat 0 = leadingZeros v := by decide

/-- Settles O54: each probe halves the bits among which the leading zeros are found, and the table counts the last four. -/
theorem narrowingSearchIsClz64 : Obligations.NarrowingSearchIsClz64 := by
  intro w
  have hnibble (p : Nat × Word64) : p.1 + clzTable.getD (p.2 >>> 60).toNat 0 = p.1 + leadingZeros (topBits 4 p.2) := by
    rw [← clzTable_eq_leadingZeros, toNat_topBits (by decide)]
  have hwhole : topBits 64 w = w := BitVec.extractLsb'_eq_self
  calc clzSearch w
    _ = (clzProbe 8 (clzProbe 16 (clzProbe 32 (0, w)))).1 +
        leadingZeros (topBits 8 (clzProbe 8 (clzProbe 16 (clzProbe 32 (0, w)))).2) :=
      (hnibble _).trans (clzProbe_spec (k := 4) (by decide) _)
    _ = (clzProbe 16 (clzProbe 32 (0, w))).1 + leadingZeros (topBits 16 (clzProbe 16 (clzProbe 32 (0, w))).2) :=
      clzProbe_spec (k := 8) (by decide) _
    _ = (clzProbe 32 (0, w)).1 + leadingZeros (topBits 32 (clzProbe 32 (0, w)).2) :=
      clzProbe_spec (k := 16) (by decide) _
    _ = 0 + leadingZeros (topBits 64 w) := clzProbe_spec (k := 32) (by decide) _
    _ = clz64 w := by rw [hwhole, Nat.zero_add, clz64]

end Sys2Proof.Proofs
end

section
/-! SUPPORT. Addition, subtraction and negation (41_add_sub.md). The idea of the word-level addition (R90): the sum of two
words overflows exactly when the wrapped sum is below an operand, so the test gives the carry that the low words pass on. -/

namespace Sys2Proof.Proofs

open Sys2Proof.Machine Sys2Proof.Statements

/-- A wrapped sum of words is below its first operand exactly when the words carry out. -/
theorem toNat_add_lt_left_iff (x y : Word64) : (x + y).toNat < x.toNat ↔ 2 ^ 64 ≤ x.toNat + y.toNat := by
  have hx := x.isLt
  have hy := y.isLt
  rw [BitVec.toNat_add]
  omega

/-- The two carry tests of R90 are one. -/
theorem toNat_add_lt_left_iff_lt_right (x y : Word64) : (x + y).toNat < x.toNat ↔ (x + y).toNat < y.toNat := by
  rw [toNat_add_lt_left_iff, BitVec.add_comm, toNat_add_lt_left_iff, Nat.add_comm]

/-- The carry of two low words, as `addWords` adds it into `hi`. -/
def lowCarry (x y : Word64) : Word64 := if (x + y).toNat < x.toNat then 1 else 0

theorem addWords_eq (a b : Data) : addWords a b = ofWords (hi a + hi b + lowCarry (lo a) (lo b)) (lo a + lo b) := rfl

theorem toNat_lowCarry (x y : Word64) : (lowCarry x y).toNat = (x.toNat + y.toNat) / 2 ^ 64 := by
  unfold lowCarry
  split
  next h =>
    rw [toNat_add_lt_left_iff] at h
    have hx := x.isLt
    have hy := y.isLt
    have hdiv : (x.toNat + y.toNat) / 2 ^ 64 = 1 := by omega
    exact hdiv.symm
  next h =>
    rw [toNat_add_lt_left_iff] at h
    exact (Nat.div_eq_of_lt (Nat.lt_of_not_le h)).symm

theorem addWords_eq_add (a b : Data) : addWords a b = a + b := by
  apply BitVec.eq_of_toNat_eq
  rw [addWords_eq, toNat_ofWords, BitVec.toNat_add, BitVec.toNat_add, toNat_lowCarry, BitVec.toNat_add, BitVec.toNat_add,
    toNat_hi, toNat_hi, toNat_lo, toNat_lo]
  omega

/-- Settles O21: the carry into `hi` is the quotient of the low sum by 2^64, and a carry test is symmetric in the words. -/
theorem wordLevelAddIsAdd : Obligations.WordLevelAddIsAdd := fun a b =>
  ⟨(addWords_eq_add a b).trans (BitVec.add_def a b), toNat_add_lt_left_iff_lt_right _ _⟩

theorem enc_uval_add (a b : Data) : enc (uval a + uval b) = BitVec.ofNat 128 (a.toNat + b.toNat) :=
  enc_natCast (a.toNat + b.toNat)

/-- `-x = ~x + 1` (41_add_sub.md R93). -/
theorem wrapNeg_eq_not_add_one (x : Data) : wrapNeg x = ~~~x + 1#128 :=
  calc wrapNeg x
    _ = enc (-uval x) := congrArg enc (Int.zero_sub _)
    _ = -enc (uval x) := BitVec.ofInt_neg
    _ = ~~~x + 1#128 := by rw [enc_uval, BitVec.neg_eq_not_add]

/-- `a - b` is computed as `a + (-b)` (41_add_sub.md R92). -/
theorem enc_uval_sub (a b : Data) : enc (uval a - uval b) = a + wrapNeg b :=
  calc enc (uval a - uval b)
    _ = enc (uval a + (0 - uval b)) := by rw [Int.zero_sub, Int.sub_eq_add_neg]
    _ = enc (uval a) + wrapNeg b := BitVec.ofInt_add _ _
    _ = a + wrapNeg b := by rw [enc_uval]

theorem exec_add (s : State) :
    exec .add s = succeeds s (BitVec.ofNat 128 (s.opa.toNat + s.opb.toNat)) 0#128 false :=
  succeed_enc_natCast (s.opa.toNat + s.opb.toNat) s

theorem exec_sub (s : State) : exec .sub s = succeeds s (s.opa + (~~~s.opb + 1#128)) 0#128 false := by
  rw [← wrapNeg_eq_not_add_one, ← enc_uval_sub]
  rfl

theorem exec_neg (s : State) : exec .neg s = succeeds s (~~~s.opa + 1#128) 0#128 false := by
  rw [← wrapNeg_eq_not_add_one]
  rfl

/-- Settles O18: each answer is the encoded number, and a difference is the sum with the complement plus 1. -/
theorem addSubNegWrap : Obligations.AddSubNegWrap :=
  ⟨rfl, rfl, rfl, fun s => ⟨exec_add s, rfl, exec_sub s, rfl, exec_neg s⟩⟩

theorem carryOut_eq_decide (a b : Data) : carryOut a b = decide (2 ^ 128 ≤ a.toNat + b.toNat) :=
  Bool.eq_iff_iff.mpr ((carryOut_eq_true_iff a b).trans decide_eq_true_iff.symm)

/-- Settles O19, with the carry-out read on the values. -/
theorem addcWritesTheCarryOut : Obligations.AddcWritesTheCarryOut := by
  refine ⟨rfl, fun s => ?_⟩
  rw [← carryOut_eq_decide, ← enc_uval_add]
  rfl

theorem exec_negs_of_minValue {s : State} (h : s.opa = minValue) : exec .negs s = raises s 3#3 := if_pos h

theorem exec_negs_of_ne_minValue {s : State} (h : s.opa ≠ minValue) :
    exec .negs s = succeeds s (BitVec.ofInt 128 (-s.opa.toInt)) 0#128 false := by
  rw [← sval_eq_toInt]
  exact if_neg h

/-- Settles O20: the guard is the comparison with SMIN, and past it NEGS encodes the negated signed value. -/
theorem negsRaisesOnMinValue : Obligations.NegsRaisesOnMinValue :=
  ⟨rfl, fun _ => ⟨exec_negs_of_minValue, exec_negs_of_ne_minValue⟩⟩

end Sys2Proof.Proofs
end

section
/-! SUPPORT. The bitwise commands and the shifts (42_bitwise_shift.md). The idea: a word of a shifted pattern is 64 neighbouring
bits of the pattern, and the two word shifts that the rules join with `|` are the two parts of such a window. So the branches
of each rule are one shift of the whole pattern, which multiplies or divides by a power of two. -/

namespace Sys2Proof.Proofs

open Sys2Proof.Machine Sys2Proof.Statements

theorem exec_shl (n : BitVec 7) (s : State) : exec (.shl n) s = succeeds s (shiftLeft s.opa n.toNat) 0#128 false := rfl

theorem exec_shr (n : BitVec 7) (s : State) : exec (.shr n) s = succeeds s (shiftRight s.opa n.toNat) 0#128 false := rfl

theorem exec_sar (n : BitVec 7) (s : State) : exec (.sar n) s = succeeds s (shiftArith s.opa n.toNat) 0#128 false := rfl

/-- Settles O22: the four words are evaluated, and each command writes its bitwise operation. -/
theorem bitwiseCommandsActOnEveryBit : Obligations.BitwiseCommandsActOnEveryBit :=
  ⟨rfl, rfl, rfl, rfl, fun _ => ⟨rfl, rfl, rfl, rfl⟩⟩

/-- The `else` branch of 42_bitwise_shift.md R104. -/
theorem shiftLeft_of_ge {n : Nat} (hn : 64 ≤ n) (x : Data) : shiftLeft x n = ofWords (lo x <<< (n - 64)) 0 := by
  rw [shiftLeft, if_neg (by omega), if_neg (by omega)]

/-- The `else` branch of 42_bitwise_shift.md R105. -/
theorem shiftRight_of_ge {n : Nat} (hn : 64 ≤ n) (x : Data) : shiftRight x n = ofWords 0 (hi x >>> (n - 64)) := by
  rw [shiftRight, if_neg (by omega), if_neg (by omega)]

/-- The `else` branch of 42_bitwise_shift.md R106. -/
theorem shiftArith_of_ge {n : Nat} (hn : 64 ≤ n) (x : Data) :
    shiftArith x n = ofWords (if (hi x).msb then BitVec.allOnes 64 else 0) (asr64 (hi x) (n - 64)) := by
  rw [shiftArith, if_neg (by omega), if_neg (by omega)]

theorem getLsbD_hi (x : Data) {i : Nat} (h : i < 64) : (hi x).getLsbD i = x.getLsbD (64 + i) := by
  simp [hi, h]

theorem msb_hi (x : Data) : (hi x).msb = x.msb := by
  rw [BitVec.msb_eq_getLsbD_last, BitVec.msb_eq_getLsbD_last, getLsbD_hi x (by decide)]

/-- Settles O25: amount 0 is the first branch of each rule, and amounts from 64 up are the last one. -/
theorem shiftLaws : Obligations.ShiftLaws := by
  refine fun s => ⟨rfl, rfl, rfl, ?_, fun n hn => ⟨?_, ?_, ?_⟩⟩
  · rw [exec_shl, shiftLeft_of_ge (by decide)]
    exact congrArg (fun w => succeeds s (w ++ 0#64) 0#128 false) (BitVec.shiftLeft_zero _)
  · rw [exec_shl, shiftLeft_of_ge hn]
    rfl
  · rw [exec_shr, shiftRight_of_ge hn]
    rfl
  · rw [exec_sar, shiftArith_of_ge hn, msb_hi, BitVec.msb_eq_getLsbD_last]
    rfl

theorem eq_ofWords {x : Data} {h l : Word64} (hh : hi x = h) (hl : lo x = l) : x = ofWords h l := by
  rw [← hh, ← hl, ofWords_hi_lo]

/-- The window of 64 bits from bit `k` up: the bits of the low word from `k` on, and above them the lowest bits of the high
word. -/
theorem extractLsb'_eq_or {k : Nat} (hk : k ≤ 64) (x : Data) :
    x.extractLsb' k 64 = lo x >>> k ||| hi x <<< (64 - k) := by
  refine BitVec.eq_of_getLsbD_eq fun i hi64 => ?_
  rw [BitVec.getLsbD_extractLsb', BitVec.getLsbD_or, BitVec.getLsbD_ushiftRight, BitVec.getLsbD_shiftLeft]
  by_cases hlow : k + i < 64
  · have hlt : i < 64 - k := by omega
    simp [hi64, hlt, getLsbD_lo x hlow]
  · have hge : ¬ i < 64 - k := by omega
    have hindex : 64 + (i - (64 - k)) = k + i := by omega
    have hhigh : (hi x).getLsbD (i - (64 - k)) = x.getLsbD (k + i) := by rw [getLsbD_hi x (by omega), hindex]
    have hpast : (lo x).getLsbD (k + i) = false := BitVec.getLsbD_of_ge _ _ (Nat.le_of_not_lt hlow)
    simp [hi64, hge, hhigh, hpast]

/-- What moves into the high word for an amount up to 64. -/
theorem hi_shiftLeft {n : Nat} (hn : n ≤ 64) (x : Data) : hi (x <<< n) = x.extractLsb' (64 - n) 64 := by
  refine BitVec.eq_of_getLsbD_eq fun i hi64 => ?_
  have hindex : 64 + i - n = 64 - n + i := by omega
  have hge : ¬ 64 + i < n := by omega
  have hlt : 64 + i < 128 := by omega
  rw [getLsbD_hi _ hi64, BitVec.getLsbD_shiftLeft, BitVec.getLsbD_extractLsb', hindex]
  simp only [hi64, hge, hlt, decide_true, decide_false, Bool.not_false, Bool.true_and]

theorem lo_shiftLeft (x : Data) (n : Nat) : lo (x <<< n) = lo x <<< n := by
  apply BitVec.eq_of_toNat_eq
  rw [toNat_lo, BitVec.toNat_shiftLeft, BitVec.toNat_shiftLeft, toNat_lo, Nat.shiftLeft_eq, Nat.shiftLeft_eq,
    Nat.mod_mod_of_dvd _ (by decide), Nat.mod_mul_mod]

theorem hi_ushiftRight (x : Data) (n : Nat) : hi (x >>> n) = hi x >>> n := by
  apply BitVec.eq_of_toNat_eq
  rw [toNat_hi, BitVec.toNat_ushiftRight, BitVec.toNat_ushiftRight, toNat_hi, Nat.shiftRight_eq_div_pow,
    Nat.shiftRight_eq_div_pow, Nat.div_right_comm]

theorem lo_ushiftRight (x : Data) (n : Nat) : lo (x >>> n) = x.extractLsb' n 64 := by
  apply BitVec.eq_of_toNat_eq
  rw [toNat_lo, BitVec.toNat_ushiftRight, BitVec.extractLsb'_toNat]

/-- The high word carries the sign, so it is the signed value's quotient by 2^64. -/
theorem toInt_hi (x : Data) : (hi x).toInt = x.toInt >>> (64 : Nat) := by
  have hlo := (lo x).isLt
  have hwords : x.toInt = 2 ^ 64 * (hi x).toInt + (lo x).toNat :=
    (congrArg BitVec.toInt (ofWords_hi_lo x).symm).trans BitVec.toInt_append
  rw [Int.shiftRight_eq_div_pow]
  omega

theorem hi_sshiftRight (x : Data) (n : Nat) : hi (x.sshiftRight n) = (hi x).sshiftRight n := by
  apply BitVec.eq_of_toInt_eq
  rw [toInt_hi, BitVec.toInt_sshiftRight, BitVec.toInt_sshiftRight, toInt_hi, ← Int.shiftRight_add, ← Int.shiftRight_add,
    Nat.add_comm]

/-- The sign moves in above bit 127, which a window within the pattern does not reach. -/
theorem lo_sshiftRight {n : Nat} (hn : n ≤ 64) (x : Data) : lo (x.sshiftRight n) = x.extractLsb' n 64 := by
  refine BitVec.eq_of_getLsbD_eq fun i hi64 => ?_
  have hge : ¬ 128 ≤ i := by omega
  have hlt : n + i < 128 := by omega
  rw [getLsbD_lo _ hi64, BitVec.getLsbD_sshiftRight, BitVec.getLsbD_extractLsb', if_pos hlt]
  simp only [hi64, hge, decide_true, decide_false, Bool.not_false]

/-- 42_bitwise_shift.md R104 is the left shift of the pattern. -/
theorem shiftLeft_eq (x : Data) (n : Nat) : shiftLeft x n = x <<< n := by
  rcases Nat.lt_or_ge n 64 with hlt | hge
  · have hhi : hi (x <<< n) = hi x <<< n ||| lo x >>> (64 - n) := by
      rw [hi_shiftLeft hlt.le, extractLsb'_eq_or (Nat.sub_le 64 n), Nat.sub_sub_self hlt.le, BitVec.or_comm]
    rw [shiftLeft, if_pos hlt, ← eq_ofWords hhi (lo_shiftLeft x n), ite_eq_right_iff]
    rintro rfl
    exact (BitVec.shiftLeft_zero x).symm
  · obtain ⟨k, rfl⟩ := Nat.exists_eq_add_of_le hge
    rw [shiftLeft_of_ge hge, Nat.add_sub_cancel_left]
    apply BitVec.eq_of_toNat_eq
    calc (ofWords (lo x <<< k) 0).toNat
      _ = x.toNat * 2 ^ k % 2 ^ 64 * 2 ^ 64 := by simp [Nat.shiftLeft_eq]
      _ = x.toNat * 2 ^ k * 2 ^ 64 % 2 ^ 128 := (Nat.mul_mod_mul_right _ _ _).symm
      _ = (x <<< (64 + k)).toNat := by rw [BitVec.toNat_shiftLeft, Nat.shiftLeft_eq, Nat.pow_add', Nat.mul_assoc]

/-- 42_bitwise_shift.md R105 is the logical right shift of the pattern. -/
theorem shiftRight_eq (x : Data) (n : Nat) : shiftRight x n = x >>> n := by
  rcases Nat.lt_or_ge n 64 with hlt | hge
  · have hlo : lo (x >>> n) = lo x >>> n ||| hi x <<< (64 - n) := by rw [lo_ushiftRight, extractLsb'_eq_or hlt.le]
    rw [shiftRight, if_pos hlt, ← eq_ofWords (hi_ushiftRight x n) hlo, ite_eq_right_iff]
    rintro rfl
    exact (BitVec.ushiftRight_zero x).symm
  · obtain ⟨k, rfl⟩ := Nat.exists_eq_add_of_le hge
    rw [shiftRight_of_ge hge, Nat.add_sub_cancel_left]
    apply BitVec.eq_of_toNat_eq
    calc (ofWords 0 (hi x >>> k)).toNat
      _ = x.toNat / 2 ^ 64 / 2 ^ k := by simp [Nat.shiftRight_eq_div_pow]
      _ = (x >>> (64 + k)).toNat := by
        rw [BitVec.toNat_ushiftRight, Nat.shiftRight_eq_div_pow, Nat.pow_add, Nat.div_div_eq_div_mul]

/-- 42_bitwise_shift.md R106 is the arithmetic right shift of the pattern. -/
theorem shiftArith_eq (x : Data) (n : Nat) : shiftArith x n = x.sshiftRight n := by
  rcases Nat.lt_or_ge n 64 with hlt | hge
  · have hlo : lo (x.sshiftRight n) = lo x >>> n ||| hi x <<< (64 - n) := by
      rw [lo_sshiftRight hlt.le, extractLsb'_eq_or hlt.le]
    rw [shiftArith, if_pos hlt, asr64, ← eq_ofWords (hi_sshiftRight x n) hlo, ite_eq_right_iff]
    rintro rfl
    exact BitVec.sshiftRight_zero.symm
  · obtain ⟨k, rfl⟩ := Nat.exists_eq_add_of_le hge
    have hsign : shiftArith x (64 + k) = ((hi x).sshiftRight k).signExtend 128 := by
      rw [shiftArith_of_ge hge, Nat.add_sub_cancel_left, BitVec.signExtend_eq_append_of_le (by decide),
        BitVec.msb_sshiftRight]
      rfl
    apply BitVec.eq_of_toInt_eq
    rw [hsign, BitVec.toInt_signExtend_of_le (by decide), BitVec.toInt_sshiftRight, BitVec.toInt_sshiftRight, toInt_hi,
      Int.shiftRight_add]

/-- A shift's word is `s<<8 | OP` (42_bitwise_shift.md R104 to R106). -/
theorem decode_append_opcode {i : Instr} (hwidth : i.widthCode = 0#2) : decode (0#17 ++ i.shamt ++ i.opcode) = .cmd i := by
  have hword : encode i = 0#17 ++ i.shamt ++ i.opcode := by rw [encode, hwidth]; rfl
  rw [← hword, decode_encode]

theorem shiftLeft_eq_ofNat (x : Data) (n : Nat) : x <<< n = BitVec.ofNat 128 (x.toNat * 2 ^ n) := by
  apply BitVec.eq_of_toNat_eq
  rw [BitVec.toNat_shiftLeft, BitVec.toNat_ofNat, Nat.shiftLeft_eq]

theorem ushiftRight_eq_ofNat (x : Data) (n : Nat) : x >>> n = BitVec.ofNat 128 (x.toNat / 2 ^ n) := by
  rw [← Nat.shiftRight_eq_div_pow, ← BitVec.toNat_ushiftRight, BitVec.ofNat_toNat, BitVec.setWidth_eq]

/-- Settles O23: the shift of the pattern is a product mod 2^128, or a quotient. -/
theorem logicalShiftsScaleByPowersOfTwo : Obligations.LogicalShiftsScaleByPowersOfTwo := by
  refine ⟨fun n => ⟨decode_append_opcode (i := .shl n) rfl, decode_append_opcode (i := .shr n) rfl⟩, fun s n => ⟨?_, ?_⟩⟩
  · rw [exec_shl, shiftLeft_eq, shiftLeft_eq_ofNat]
  · rw [exec_shr, shiftRight_eq, ushiftRight_eq_ofNat]

/-- Settles O24: an arithmetic shift is the floor of the signed value's quotient. -/
theorem arithmeticShiftFloors : Obligations.ArithmeticShiftFloors := by
  refine ⟨fun n => decode_append_opcode (i := .sar n) rfl, fun s n => ?_⟩
  have hfloor : (s.opa.sshiftRight n.toNat).toInt = Int.fdiv s.opa.toInt (2 ^ n.toNat) := by
    rw [BitVec.toInt_sshiftRight, Int.shiftRight_eq_div_pow, Int.fdiv_eq_ediv_of_nonneg _ (by positivity)]
    norm_cast
  rw [exec_sar, shiftArith_eq, ← hfloor, BitVec.ofInt_toInt]

end Sys2Proof.Proofs
end

section
/-! SUPPORT. The multiply commands (43_multiply.md). The idea: MUL is the product of the patterns as bit vectors, `a * b`.
MULS is that product with its sign corrected, and the correction changes nothing where the exact signed product is in range
(R118), as it is on the fast paths. -/

namespace Sys2Proof.Proofs

open Sys2Proof.Machine Sys2Proof.Statements

theorem ofNat_toNat_mul (a b : Data) : BitVec.ofNat 128 (a.toNat * b.toNat) = a * b := by
  rw [BitVec.ofNat_mul, BitVec.ofNat_toNat, BitVec.ofNat_toNat, BitVec.setWidth_eq, BitVec.setWidth_eq]

/-- The truncated product of the signed values is that of the patterns (43_multiply.md R116). -/
theorem ofInt_toInt_mul (a b : Data) : BitVec.ofInt 128 (a.toInt * b.toInt) = a * b := by
  rw [BitVec.ofInt_mul, BitVec.ofInt_toInt, BitVec.ofInt_toInt]

theorem mulTrunc_eq_mul (a b : Data) : mulTrunc a b = a * b :=
  (enc_natCast (a.toNat * b.toNat)).trans (ofNat_toNat_mul a b)

theorem exec_mul (s : State) : exec .mul s = succeeds s (s.opa * s.opb) 0#128 false := by
  rw [← mulTrunc_eq_mul]
  rfl

theorem exec_umul64 (s : State) :
    exec .umul64 s = succeeds s (BitVec.ofNat 128 ((lo s.opa).toNat * (lo s.opb).toNat)) 0#128 false :=
  succeed_enc_natCast ((lo s.opa).toNat * (lo s.opb).toNat) s

/-- Settles O26: a product of two words fits in a pattern, and MUL writes the product of the patterns. -/
theorem unsignedMultiplies : Obligations.UnsignedMultiplies := by
  refine ⟨rfl, rfl, fun s => ⟨⟨_, exec_umul64 s, ?_⟩, ?_, ?_⟩⟩
  · have hfits : (lo s.opa).toNat * (lo s.opb).toNat < 2 ^ 128 :=
      (Nat.mul_lt_mul'' (lo s.opa).isLt (lo s.opb).isLt).trans_eq (Nat.pow_add 2 64 64).symm
    rw [BitVec.toNat_ofNat, Nat.mod_eq_of_lt hfits, toNat_lo, toNat_lo]
  · rw [ofNat_toNat_mul, exec_mul]
  · rw [ofInt_toInt_mul, exec_mul]

theorem wrapNeg_eq_neg (x : Data) : wrapNeg x = -x := by
  rw [wrapNeg_eq_not_add_one, BitVec.neg_eq_not_add]

/-- The truncated product, negated where its bit 127 disagrees with the expected sign (43_multiply.md R118). -/
def correctedMul (a b : Data) : Data := if (a * b).msb = (a.msb ^^ b.msb) then a * b else -(a * b)

theorem correctedMul_comm (a b : Data) : correctedMul a b = correctedMul b a := by
  rw [correctedMul, correctedMul, BitVec.mul_comm, Bool.xor_comm]

theorem sign_of_ne_zero {x : Data} (h : x ≠ 0#128) : sign x = if x.msb then -1 else 1 := by
  refine if_neg fun ⟨hhi, hlo⟩ => h ?_
  rw [← ofWords_hi_lo x, hhi, hlo]
  rfl

/-- The general path of MULS expects a negative product when the operands' bits 127 differ. -/
theorem mulsGeneral_eq_correctedMul {a b : Data} (ha : a ≠ 0#128) (hb : b ≠ 0#128) :
    mulsGeneral a b = correctedMul a b := by
  have hneg : decide (sign a ≠ sign b) = (a.msb ^^ b.msb) := by
    rw [sign_of_ne_zero ha, sign_of_ne_zero hb]
    cases a.msb <;> cases b.msb <;> rfl
  rw [mulsGeneral, hneg, mulTrunc_eq_mul, wrapNeg_eq_neg, ite_not, correctedMul]

/-- The sign rule of a product of nonzero factors, as bits. -/
theorem decide_mul_neg {p q : Int} (hp : p ≠ 0) (hq : q ≠ 0) :
    decide (p * q < 0) = (decide (p < 0) ^^ decide (q < 0)) := by
  rcases hp.lt_or_gt with hp | hp <;> rcases hq.lt_or_gt with hq | hq <;>
    simp [mul_neg_iff, hp, hq, hp.not_gt, hq.not_gt]

/-- The correction changes nothing when the exact signed product is in range: bit 127 is then the sign of the product
(43_multiply.md R118). -/
theorem correctedMul_of_inRange {a b : Data} (hlow : -2 ^ 127 ≤ a.toInt * b.toInt)
    (hhigh : a.toInt * b.toInt ≤ 2 ^ 127 - 1) : correctedMul a b = a * b := by
  have hexact : (a * b).toInt = a.toInt * b.toInt := by
    rw [BitVec.toInt_mul, Int.bmod_eq_of_le] <;> omega
  by_cases hzero : a * b = 0#128
  · rw [correctedMul, hzero, BitVec.neg_zero, ite_self]
  · have hne : a.toInt * b.toInt ≠ 0 := by
      rw [← hexact, ← BitVec.toInt_zero (w := 128), Ne, BitVec.toInt_inj]
      exact hzero
    obtain ⟨ha, hb⟩ := mul_ne_zero_iff.mp hne
    refine if_pos ?_
    rw [BitVec.msb_eq_toInt, BitVec.msb_eq_toInt, BitVec.msb_eq_toInt, hexact, decide_mul_neg ha hb]

/-- The zero fast path agrees with the general path (43_multiply.md R120). -/
theorem correctedMul_of_zero {a b : Data} (h : a = zero ∨ b = zero) : correctedMul a b = zero := by
  have hmul : a * b = zero := by
    rcases h with rfl | rfl
    · exact BitVec.zero_mul
    · exact BitVec.mul_zero
  rw [correctedMul, hmul]
  exact ite_self _

/-- The fast paths for 1 agree with the general path (43_multiply.md R120). -/
theorem correctedMul_one_left (x : Data) : correctedMul one x = x := by
  have hone : one.toInt * x.toInt = x.toInt := Int.one_mul _
  have hlow := BitVec.le_toInt x
  have hhigh := BitVec.toInt_lt (x := x)
  rw [correctedMul_of_inRange (by omega) (by omega)]
  exact BitVec.one_mul x

/-- The fast paths for −1 agree with the general path, the pair with SMIN apart (43_multiply.md R120). -/
theorem correctedMul_mone_left {x : Data} (h : x ≠ smin) : correctedMul mone x = enc (-sval x) := by
  have hmone : mone.toInt * x.toInt = -x.toInt := Int.neg_one_mul _
  have hmin : x.toInt ≠ -2 ^ 127 := fun heq => h (BitVec.toInt_inj.mp heq)
  have hlow := BitVec.le_toInt x
  have hhigh := BitVec.toInt_lt (x := x)
  rw [correctedMul_of_inRange (by omega) (by omega), ← ofInt_toInt_mul, hmone, sval_eq_toInt, enc]

theorem exec_muls_of_raising_pair {s : State}
    (h : s.opa = minusOne ∧ s.opb = minValue ∨ s.opa = minValue ∧ s.opb = minusOne) : exec .muls s = raises s 3#3 := by
  change execMuls s = _
  rcases h with ⟨ha, hb⟩ | ⟨ha, hb⟩ <;> rw [execMuls, ha, hb] <;> rfl

/-- Off the raising pair every path of MULS is the corrected product. -/
theorem exec_muls_of_not_raising_pair {s : State}
    (h : ¬ (s.opa = minusOne ∧ s.opb = minValue ∨ s.opa = minValue ∧ s.opb = minusOne)) :
    exec .muls s = succeeds s (correctedMul s.opa s.opb) 0#128 false := by
  suffices hpaths : execMuls s = succeed (correctedMul s.opa s.opb) s from hpaths
  unfold execMuls
  split_ifs with hzero ha hb ha hmin hb hmin
  · rw [correctedMul_of_zero hzero]
  · rw [ha, correctedMul_one_left]
  · rw [hb, correctedMul_comm, correctedMul_one_left]
  · exact absurd (.inl ⟨ha, hmin⟩) h
  · rw [ha, correctedMul_mone_left hmin]
  · exact absurd (.inr ⟨hmin, hb⟩) h
  · rw [hb, correctedMul_comm, correctedMul_mone_left hmin]
  · obtain ⟨ha0, hb0⟩ := not_or.mp hzero
    rw [mulsGeneral_eq_correctedMul ha0 hb0]

/-- Settles O27: the corrected product is ZERO when an operand is. -/
theorem mulsCorrectsTheSign : Obligations.MulsCorrectsTheSign := by
  refine ⟨rfl, fun s => ⟨exec_muls_of_raising_pair, fun h => ?_⟩⟩
  rw [exec_muls_of_not_raising_pair h, ofNat_toNat_mul]
  split
  next hzero => rw [correctedMul_of_zero hzero, zero]
  next => rw [correctedMul]

/-- Settles O28: the raising pair's product 2^127 is out of range, and in range the correction changes nothing. -/
theorem mulsIsExactInRange : Obligations.MulsIsExactInRange := by
  intro s hlow hhigh
  have hpair : ¬ (s.opa = minusOne ∧ s.opb = minValue ∨ s.opa = minValue ∧ s.opb = minusOne) := by
    rintro (⟨ha, hb⟩ | ⟨ha, hb⟩) <;> rw [ha, hb] at hhigh <;> exact absurd hhigh (by decide)
  rw [exec_muls_of_not_raising_pair hpair, correctedMul_of_inRange hlow hhigh, ofInt_toInt_mul]

end Sys2Proof.Proofs
end

section
/-! SUPPORT. The 32-bit-split multiply (43_multiply.md R117). The idea: every line of the method adds one product of parts at
its place, and reducing the high word mod 2^64 is reducing the pattern mod 2^128. -/

namespace Sys2Proof.Proofs

open Sys2Proof.Machine

/-- A sum into the high word is taken mod 2^64, which the pattern mod 2^128 does not see. -/
theorem ofWords_eq_ofNat {h l : Word64} {m n : Nat} (hh : h.toNat = m % 2 ^ 64) (hl : l.toNat = n) :
    ofWords h l = BitVec.ofNat 128 (m * 2 ^ 64 + n) := by
  have hlt := l.isLt
  apply BitVec.eq_of_toNat_eq
  rw [toNat_ofWords, BitVec.toNat_ofNat]
  omega

theorem enc_uval_ofNat_add (m n : Nat) : enc (uval (BitVec.ofNat 128 m) + n) = BitVec.ofNat 128 (m + n) := by
  rw [← enc_natCast, ← enc_natCast, enc_eq_enc_iff, uval_enc, Int.natCast_add, Int.emod_add_emod]

/-- `w[63:32]`, the `a32` and `b32` of 43_multiply.md R117. -/
def upper (w : Word64) : Word64 := w >>> 32

/-- `w[31:0]`, the `a00` and `b00` of 43_multiply.md R117. -/
def lower (w : Word64) : Word64 := w &&& 0xFFFFFFFF#64

theorem toNat_upper (w : Word64) : (upper w).toNat = w.toNat / 2 ^ 32 := by
  rw [upper, BitVec.toNat_ushiftRight, Nat.shiftRight_eq_div_pow]

theorem toNat_lower (w : Word64) : (lower w).toNat = w.toNat % 2 ^ 32 := by
  rw [lower, BitVec.toNat_and]
  exact Nat.and_two_pow_sub_one_eq_mod _ 32

theorem upper_lt (w : Word64) : (upper w).toNat < 2 ^ 32 := by
  rw [toNat_upper]
  exact Nat.div_lt_of_lt_mul w.isLt

theorem lower_lt (w : Word64) : (lower w).toNat < 2 ^ 32 := by
  rw [toNat_lower]
  exact Nat.mod_lt _ (by decide)

/-- The product of two 32-bit halves fits in a word. -/
theorem toNat_mul_of_lt_two_pow {x y : Word64} (hx : x.toNat < 2 ^ 32) (hy : y.toNat < 2 ^ 32) :
    (x * y).toNat = x.toNat * y.toNat :=
  BitVec.toNat_mul_of_lt ((Nat.mul_lt_mul'' hx hy).trans_eq (Nat.pow_add 2 32 32).symm)

theorem toNat_eq_upper_lower (w : Word64) : w.toNat = (upper w).toNat * 2 ^ 32 + (lower w).toNat := by
  rw [toNat_upper, toNat_lower, Nat.div_add_mod']

theorem toNat_eq_words (x : Data) : x.toNat = (hi x).toNat * 2 ^ 64 + (lo x).toNat := by
  rw [toNat_hi, toNat_lo, Nat.div_add_mod']

/-- What R117 collects in the high word, before the word is reduced mod 2^64. -/
def highSum (a b : Data) : Nat :=
  (hi a).toNat * (lo b).toNat + (lo a).toNat * (hi b).toNat + (upper (lo a)).toNat * (upper (lo b)).toNat

/-- All that the lines of R117 add up, each product at its place. -/
def splitSum (a b : Data) : Nat :=
  highSum a b * 2 ^ 64 + (lower (lo a)).toNat * (lower (lo b)).toNat +
    (upper (lo a)).toNat * (lower (lo b)).toNat * 2 ^ 32 + (lower (lo a)).toNat * (upper (lo b)).toNat * 2 ^ 32

theorem toNat_high_eq_highSum_mod (a b : Data) :
    (hi a * lo b + lo a * hi b + upper (lo a) * upper (lo b)).toNat = highSum a b % 2 ^ 64 := by
  simp only [highSum, BitVec.toNat_add, BitVec.toNat_mul, Nat.mod_add_mod, Nat.add_mod_mod]

theorem mulSplit_eq_ofNat (a b : Data) : mulSplit a b = BitVec.ofNat 128 (splitSum a b) := by
  have hlines : mulSplit a b = enc (uval (enc (uval (ofWords
      (hi a * lo b + lo a * hi b + upper (lo a) * upper (lo b)) (lower (lo a) * lower (lo b))) +
      ((upper (lo a) * lower (lo b)).toNat * 2 ^ 32 : Nat))) + ((lower (lo a) * upper (lo b)).toNat * 2 ^ 32 : Nat)) := rfl
  rw [hlines, ofWords_eq_ofNat (toNat_high_eq_highSum_mod a b) (toNat_mul_of_lt_two_pow (lower_lt _) (lower_lt _)),
    enc_uval_ofNat_add, enc_uval_ofNat_add, toNat_mul_of_lt_two_pow (upper_lt _) (lower_lt _),
    toNat_mul_of_lt_two_pow (lower_lt _) (upper_lt _), splitSum]

/-- The product of the high words, which R117 leaves out, counts 2^128. -/
theorem toNat_mul_toNat_eq_splitSum_add (a b : Data) :
    a.toNat * b.toNat = splitSum a b + (hi a).toNat * (hi b).toNat * 2 ^ 128 := by
  rw [toNat_eq_words a, toNat_eq_words b, splitSum, highSum, toNat_eq_upper_lower (lo a), toNat_eq_upper_lower (lo b)]
  ring

/-- Settles O29: the method gives the product but for a multiple of 2^128. -/
theorem splitMultiplyIsMul : Obligations.SplitMultiplyIsMul := by
  intro a b
  apply BitVec.eq_of_toNat_eq
  rw [mulSplit_eq_ofNat, toNat_mul_toNat_eq_splitSum_add, BitVec.toNat_ofNat, BitVec.toNat_ofNat, Nat.add_mul_mod_self_right]

end Sys2Proof.Proofs
end

section
/-! SUPPORT. The divide commands (44_divide.md). The idea: the two divide functions of R125 and R130 are bit-vector divisions,
`a / b`, `a % b` and `a.sdiv b`, `a.srem b`, whose values are the quotients and remainders of the operands' values. -/

namespace Sys2Proof.Proofs

open Sys2Proof.Machine Sys2Proof.Statements

theorem udivmod_fst (a b : Data) : (udivmod a b).1 = a / b := by
  rw [BitVec.udiv_def, ← enc_natCast]
  rfl

theorem udivmod_snd (a b : Data) : (udivmod a b).2 = a % b := by
  rw [BitVec.umod_def, ← enc_natCast]
  rfl

theorem exec_divu_of_ne_zero {s : State} (h : s.opb ≠ 0#128) :
    exec .divu s = succeeds s (s.opa / s.opb) 0#128 false := by
  rw [← udivmod_fst]
  exact if_neg h

theorem exec_remu_of_ne_zero {s : State} (h : s.opb ≠ 0#128) :
    exec .remu s = succeeds s (s.opa % s.opb) 0#128 false := by
  rw [← udivmod_snd]
  exact if_neg h

theorem exec_divmodu_of_ne_zero {s : State} (h : s.opb ≠ 0#128) :
    exec .divmodu s = succeeds s (s.opa / s.opb) (s.opa % s.opb) false := by
  rw [← udivmod_fst, ← udivmod_snd]
  exact if_neg h

theorem toNat_eq_udiv_mul_add_umod (a b : Data) : a.toNat = (a / b).toNat * b.toNat + (a % b).toNat := by
  rw [BitVec.toNat_udiv, BitVec.toNat_umod, Nat.div_add_mod']

theorem toNat_umod_lt (a : Data) {b : Data} (h : b ≠ 0#128) : (a % b).toNat < b.toNat := by
  rw [BitVec.toNat_umod]
  exact Nat.mod_lt _ (BitVec.toNat_pos_of_ne_zero h)

/-- Settles O30, with the quotient and the remainder of the patterns. -/
theorem unsignedDivides : Obligations.UnsignedDivides :=
  ⟨rfl, rfl, rfl, fun s => ⟨fun h => ⟨if_pos h, if_pos h, if_pos h⟩, fun h => ⟨s.opa / s.opb, s.opa % s.opb,
    toNat_eq_udiv_mul_add_umod _ _, toNat_umod_lt _ h, exec_divu_of_ne_zero h, exec_remu_of_ne_zero h,
    exec_divmodu_of_ne_zero h⟩⟩⟩

/-- The magnitude as the wrapping negate of a negative pattern, SMIN included (44_divide.md R130). -/
theorem magnitude_eq_ite (x : Data) : magnitude x = if x.msb then -x else x := by
  have habs : enc (-sval x) = -x := by rw [enc, BitVec.ofInt_neg, ← enc, enc_sval]
  rw [magnitude, ← habs, sval_eq_toInt, BitVec.msb_eq_toInt]
  split
  next hneg => rw [Int.ofNat_natAbs_of_nonpos (of_decide_eq_true hneg).le]
  next hneg => rw [Int.natAbs_of_nonneg (by simpa using hneg), ← sval_eq_toInt, enc_sval]

/-- The quotient of the magnitudes with the sign R130 gives it. A dividend ZERO has a sign of its own, and its quotient ZERO
is its own negative. -/
theorem signed_quotient_eq_sdiv (a : Data) {b : Data} (h : b ≠ 0#128) :
    (if sign a ≠ sign b then -(magnitude a / magnitude b) else magnitude a / magnitude b) = a.sdiv b := by
  rw [magnitude_eq_ite, magnitude_eq_ite]
  by_cases ha : a = 0#128
  · simp [ha]
  · rw [sign_of_ne_zero ha, sign_of_ne_zero h, BitVec.sdiv_eq]
    cases a.msb <;> cases b.msb <;> rfl

/-- The remainder of the magnitudes with the dividend's sign (44_divide.md R130). -/
theorem signed_remainder_eq_srem (a b : Data) :
    (if a.msb then -(magnitude a % magnitude b) else magnitude a % magnitude b) = a.srem b := by
  rw [magnitude_eq_ite, magnitude_eq_ite, BitVec.srem_eq]
  cases a.msb <;> cases b.msb <;> rfl

theorem sdivmod_fst (a : Data) {b : Data} (h : b ≠ 0#128) : (sdivmod a b).1 = a.sdiv b := by
  rw [← signed_quotient_eq_sdiv a h, ← udivmod_fst, ← wrapNeg_eq_neg]
  rfl

theorem sdivmod_snd (a b : Data) : (sdivmod a b).2 = a.srem b := by
  rw [← signed_remainder_eq_srem a b, ← udivmod_snd, ← wrapNeg_eq_neg]
  rfl

theorem exec_divs_of_ne_zero {s : State} (h : s.opb ≠ 0#128) :
    exec .divs s = succeeds s (s.opa.sdiv s.opb) 0#128 false := by
  rw [← sdivmod_fst _ h]
  exact if_neg h

theorem exec_rems_of_ne_zero {s : State} (h : s.opb ≠ 0#128) :
    exec .rems s = succeeds s (s.opa.srem s.opb) 0#128 false := by
  rw [← sdivmod_snd]
  exact if_neg h

theorem exec_divmods_of_ne_zero {s : State} (h : s.opb ≠ 0#128) :
    exec .divmods s = succeeds s (s.opa.sdiv s.opb) (s.opa.srem s.opb) false := by
  rw [← sdivmod_fst _ h, ← sdivmod_snd]
  exact if_neg h

/-- The signed quotient rounds toward zero; mod 2^128 this holds at SMIN / MONE too. -/
theorem ofInt_tdiv (a b : Data) : BitVec.ofInt 128 (Int.tdiv a.toInt b.toInt) = a.sdiv b := by
  apply BitVec.eq_of_toInt_eq
  rw [BitVec.toInt_ofInt, BitVec.toInt_sdiv]

theorem ofInt_tmod (a b : Data) : BitVec.ofInt 128 (Int.tmod a.toInt b.toInt) = a.srem b := by
  rw [← BitVec.toInt_srem, BitVec.ofInt_toInt]

/-- Settles O31: the signed divisions of the patterns encode the truncated quotient and its remainder. -/
theorem signedDividesTruncate : Obligations.SignedDividesTruncate := by
  refine ⟨rfl, rfl, rfl, fun s => ⟨fun h => ⟨if_pos h, if_pos h, if_pos h⟩, fun h => ?_⟩⟩
  rw [ofInt_tdiv, ofInt_tmod]
  exact ⟨exec_divs_of_ne_zero h, exec_rems_of_ne_zero h, exec_divmods_of_ne_zero h⟩

/-- The divide identity mod 2^128 (44_divide.md R134). -/
theorem eq_sdiv_mul_add_srem (a b : Data) : a = a.sdiv b * b + a.srem b :=
  calc a
    _ = BitVec.ofInt 128 (Int.tdiv a.toInt b.toInt * b.toInt + Int.tmod a.toInt b.toInt) := by
      rw [Int.tdiv_mul_add_tmod, BitVec.ofInt_toInt]
    _ = a.sdiv b * b + a.srem b := by
      rw [BitVec.ofInt_add, BitVec.ofInt_mul, ofInt_tdiv, ofInt_tmod, BitVec.ofInt_toInt]

/-- The divide identity is exact but for SMIN / MONE (44_divide.md R134). -/
theorem toInt_eq_sdiv_mul_add_srem {a b : Data} (h : ¬ (a = minValue ∧ b = minusOne)) :
    a.toInt = (a.sdiv b).toInt * b.toInt + (a.srem b).toInt := by
  rw [BitVec.toInt_sdiv_of_ne_or_ne a b (not_and_or.mp h), BitVec.toInt_srem, Int.tdiv_mul_add_tmod]

theorem natAbs_toInt_srem_lt (a : Data) {b : Data} (h : b ≠ 0#128) : (a.srem b).toInt.natAbs < b.toInt.natAbs := by
  rw [BitVec.toInt_srem, Int.natAbs_tmod]
  exact Nat.mod_lt _ (Int.natAbs_pos.mpr (BitVec.toInt_ne.mpr h))

/-- A signed remainder is ZERO, when the divisor divides the dividend, or has the dividend's sign (44_divide.md R134). -/
theorem srem_eq_zero_or_sign_eq (a b : Data) : a.srem b = 0#128 ∨ (a.srem b).toInt.sign = a.toInt.sign := by
  by_cases hdvd : b.toInt ∣ a.toInt
  · refine .inl ?_
    rw [← ofInt_tmod, Int.tmod_eq_zero_of_dvd hdvd]
    rfl
  · refine .inr ?_
    rw [BitVec.toInt_srem, Int.sign_tmod, if_neg hdvd]

/-- Settles O32, law by law. -/
theorem divideLaws : Obligations.DivideLaws := fun _ h =>
  ⟨⟨_, _, exec_divmodu_of_ne_zero h, toNat_eq_udiv_mul_add_umod _ _, toNat_umod_lt _ h⟩,
    ⟨_, _, exec_divmods_of_ne_zero h, eq_sdiv_mul_add_srem _ _, natAbs_toInt_srem_lt _ h, srem_eq_zero_or_sign_eq _ _,
      toInt_eq_sdiv_mul_add_srem⟩⟩

end Sys2Proof.Proofs
end

section
/-! SUPPORT. The shift-subtract divider (44_divide.md R126). The idea: with `n` iterations left, the running quotient counts
`2^n` times the divisor, and together with the running dividend it still makes up the dividend. An iteration splits this
`2^n` in half and moves one half over when it fits. -/

namespace Sys2Proof.Proofs

open Sys2Proof.Machine

/-- What the loop keeps with `n` iterations left to run. -/
structure DivInv (a b : Data) (n : Nat) (d : DivWork) : Prop where
  /-- The aligned divisor is half of `b * 2^n`: it is `b * 2^(n-1)`, until the last shift moves a bit out. -/
  divisor : d.divisor.toNat = b.toNat * 2 ^ n / 2
  lt : d.dividend.toNat < b.toNat * 2 ^ n
  sum : d.quotient.toNat * (b.toNat * 2 ^ n) + d.dividend.toNat = a.toNat

theorem toNat_shiftLeft_one {q : Data} (h : 2 * q.toNat < 2 ^ 128) : (q <<< 1).toNat = 2 * q.toNat := by
  rw [BitVec.toNat_shiftLeft, Nat.shiftLeft_eq, Nat.pow_one, Nat.mul_comm, Nat.mod_eq_of_lt h]

theorem toNat_shiftLeft_one_or_one {q : Data} (h : 2 * q.toNat < 2 ^ 128) : (q <<< 1 ||| 1#128).toNat = 2 * q.toNat + 1 := by
  rw [BitVec.toNat_or, toNat_shiftLeft_one h]
  exact (Nat.two_pow_add_eq_or_of_lt (i := 1) (by decide) q.toNat).symm

theorem mul_two_pow_succ_div_two (m n : Nat) : m * 2 ^ (n + 1) / 2 = m * 2 ^ n := by
  rw [Nat.pow_succ, ← Nat.mul_assoc, Nat.mul_div_cancel _ (by decide)]

/-- The aligned divisor of an iteration. -/
theorem DivInv.toNat_divisor {a b : Data} {n : Nat} {d : DivWork} (h : DivInv a b (n + 1) d) :
    d.divisor.toNat = b.toNat * 2 ^ n := by
  rw [h.divisor, mul_two_pow_succ_div_two]

theorem DivInv.dividend_lt_two_mul {a b : Data} {n : Nat} {d : DivWork} (h : DivInv a b (n + 1) d) :
    d.dividend.toNat < 2 * (b.toNat * 2 ^ n) := h.lt.trans_eq (by ring)

/-- Doubling the running quotient loses no bit: it still counts into the dividend. -/
theorem DivInv.two_mul_quotient_lt {a b : Data} {n : Nat} {d : DivWork} (h : DivInv a b (n + 1) d) :
    2 * d.quotient.toNat < 2 ^ 128 := by
  have hlt := h.dividend_lt_two_mul
  have hpos : 0 < b.toNat * 2 ^ n := by omega
  calc 2 * d.quotient.toNat
    _ ≤ 2 * d.quotient.toNat * (b.toNat * 2 ^ n) := Nat.le_mul_of_pos_right _ hpos
    _ = d.quotient.toNat * (b.toNat * 2 ^ (n + 1)) := by ring
    _ ≤ a.toNat := Nat.le.intro h.sum
    _ < 2 ^ 128 := a.isLt

theorem divIterate_keeps {a b : Data} {n : Nat} {d : DivWork} (h : DivInv a b (n + 1) d) : DivInv a b n (divIterate d) := by
  have hdouble := h.two_mul_quotient_lt
  have hdivisor : (d.divisor >>> 1).toNat = b.toNat * 2 ^ n / 2 := by
    rw [BitVec.toNat_ushiftRight, Nat.shiftRight_eq_div_pow, Nat.pow_one, h.toNat_divisor]
  have hsum : 2 * d.quotient.toNat * (b.toNat * 2 ^ n) + d.dividend.toNat = a.toNat := by
    rw [← h.sum]
    ring
  have hlt := h.dividend_lt_two_mul
  unfold divIterate
  split
  next hfits =>
    have hsub : (d.dividend - d.divisor).toNat = d.dividend.toNat - b.toNat * 2 ^ n := by
      rw [BitVec.toNat_sub_of_le hfits, h.toNat_divisor]
    rw [h.toNat_divisor] at hfits
    refine ⟨hdivisor, ?_, ?_⟩
    · rw [hsub]
      omega
    · rw [hsub, toNat_shiftLeft_one_or_one hdouble, Nat.succ_mul, Nat.add_assoc, Nat.add_sub_cancel' hfits, hsum]
  next hfits =>
    rw [h.toNat_divisor] at hfits
    refine ⟨hdivisor, Nat.lt_of_not_le hfits, ?_⟩
    rw [toNat_shiftLeft_one hdouble, hsum]

theorem divRun_keeps {a b : Data} {n : Nat} {d : DivWork} (h : DivInv a b n d) : DivInv a b 0 (divRun n d) := by
  induction n generalizing d with
  | zero => exact h
  | succ n ih => exact ih (divIterate_keeps h)

/-- What R125 says of a quotient and a remainder fixes both. -/
theorem eq_udiv_umod_of_sum {a b q r : Data} (hlt : r.toNat < b.toNat) (hsum : q.toNat * b.toNat + r.toNat = a.toNat) :
    (q, r) = (a / b, a % b) := by
  rw [Nat.mul_comm] at hsum
  have hpos : 0#128 < b := Nat.zero_lt_of_lt hlt
  rw [BitVec.udiv_eq_of_mul_add_toNat hpos hlt hsum, BitVec.umod_eq_of_mul_add_toNat hlt hsum]

/-- With no iteration left, the running values are the quotient and the remainder. -/
theorem DivInv.eq_udiv_umod {a b : Data} {d : DivWork} (h : DivInv a b 0 d) :
    (d.quotient, d.dividend) = (a / b, a % b) := by
  obtain ⟨-, hlt, hsum⟩ := h
  rw [Nat.pow_zero, Nat.mul_one] at hlt hsum
  exact eq_udiv_umod_of_sum hlt hsum

theorem flsIndex_le_flsIndex {a b : Data} (hb : b ≠ 0#128) (h : b.toNat ≤ a.toNat) : flsIndex b ≤ flsIndex a := by
  have ha : a ≠ zero := by
    rintro rfl
    exact hb (BitVec.eq_of_toNat_eq (Nat.le_zero.mp h))
  have hlt : 2 ^ flsIndex b < 2 ^ (flsIndex a + 1) := (flsIndex_spec hb).1.trans_lt (h.trans_lt (flsIndex_spec ha).2)
  exact Nat.le_of_lt_succ ((Nat.pow_lt_pow_iff_right (by decide)).mp hlt)

/-- The iterations the loop starts with, at most 128 (44_divide.md R126). -/
theorem toNat_divStart_count (a b : Data) : (divStart a b).count.toNat = flsIndex a - flsIndex b + 1 := by
  have hle := flsIndex_le a
  exact Nat.mod_eq_of_lt (by omega)

/-- Aligning the divisor loses no bit: its last set bit moves to that of the dividend. -/
theorem toNat_divStart_divisor {a b : Data} (hb : b ≠ 0#128) (h : b.toNat ≤ a.toNat) :
    (divStart a b).divisor.toNat = b.toNat * 2 ^ (flsIndex a - flsIndex b) := by
  have hindex : flsIndex b + 1 + (flsIndex a - flsIndex b) ≤ 128 := by
    have hle := flsIndex_le_flsIndex hb h
    have hmax := flsIndex_le a
    omega
  have hlt : b.toNat * 2 ^ (flsIndex a - flsIndex b) < 2 ^ 128 :=
    calc b.toNat * 2 ^ (flsIndex a - flsIndex b)
      _ < 2 ^ (flsIndex b + 1) * 2 ^ (flsIndex a - flsIndex b) :=
        Nat.mul_lt_mul_of_pos_right (flsIndex_spec hb).2 (by positivity)
      _ = 2 ^ (flsIndex b + 1 + (flsIndex a - flsIndex b)) := (Nat.pow_add 2 _ _).symm
      _ ≤ 2 ^ 128 := Nat.pow_le_pow_right (by decide) hindex
  rw [divStart, BitVec.toNat_shiftLeft, Nat.shiftLeft_eq, Nat.mod_eq_of_lt hlt]

/-- The dividend has no bit above the aligned divisor's last. -/
theorem toNat_lt_mul_two_pow_divStart {a b : Data} (ha : a ≠ 0#128) (hb : b ≠ 0#128) :
    a.toNat < b.toNat * 2 ^ (flsIndex a - flsIndex b + 1) :=
  calc a.toNat
    _ < 2 ^ (flsIndex a + 1) := (flsIndex_spec ha).2
    _ ≤ 2 ^ (flsIndex b + (flsIndex a - flsIndex b + 1)) := Nat.pow_le_pow_right (by decide) (by omega)
    _ = 2 ^ flsIndex b * 2 ^ (flsIndex a - flsIndex b + 1) := Nat.pow_add 2 _ _
    _ ≤ b.toNat * 2 ^ (flsIndex a - flsIndex b + 1) := Nat.mul_le_mul_right _ (flsIndex_spec hb).1

theorem divInv_divStart {a b : Data} (ha : a ≠ 0#128) (hb : b ≠ 0#128) (h : b.toNat ≤ a.toNat) :
    DivInv a b (divStart a b).count.toNat (divStart a b) := by
  rw [toNat_divStart_count]
  refine ⟨?_, toNat_lt_mul_two_pow_divStart ha hb, ?_⟩
  · rw [toNat_divStart_divisor hb h, mul_two_pow_succ_div_two]
  · exact (congrArg (· + a.toNat) (Nat.zero_mul _)).trans (Nat.zero_add _)

/-- The divider, path by path: a fast path's answer is the quotient and the remainder at once. -/
theorem shiftSubtract_eq (a : Data) {b : Data} (hb : b ≠ 0#128) : shiftSubtract a b = (a / b, a % b) := by
  unfold shiftSubtract
  have hpos := BitVec.toNat_pos_of_ne_zero hb
  split_ifs with hlt heq ha
  · exact eq_udiv_umod_of_sum hlt (by simp [zero])
  · exact eq_udiv_umod_of_sum hpos (by simp [heq, zero, one, enc])
  · exact eq_udiv_umod_of_sum hpos (by simp [ha, zero])
  · exact (divRun_keeps (divInv_divStart ha hb (Nat.le_of_not_lt hlt))).eq_udiv_umod

/-- Settles O33: the loop's invariant ends in the quotient and the remainder, and an index of a bit is at most 127. -/
theorem shiftSubtractIsDivision : Obligations.ShiftSubtractIsDivision := by
  intro a b hb
  rw [shiftSubtract_eq a hb, BitVec.udiv_def, BitVec.umod_def, toNat_divStart_count]
  have hle := flsIndex_le a
  exact ⟨rfl, by omega⟩

end Sys2Proof.Proofs
end

section
/-! SUPPORT. The comparisons and the sign commands (45_compare_sign.md). The idea: HPTS's two methods are the three-way
comparison `threeWay` of the values. The words of a pattern are its digits to base 2^64, so their lexicographic order is the
unsigned order; operands of equal sign lose the same 2^128 (or nothing) when read as signed, which keeps that order. -/

namespace Sys2Proof.Proofs

open Sys2Proof.Machine Sys2Proof.Statements

theorem threeWay_of_lt {x y : Int} (h : x < y) : threeWay x y = -1 := if_pos h

theorem threeWay_of_gt {x y : Int} (h : x > y) : threeWay x y = 1 := (if_neg h.not_gt).trans (if_pos h)

theorem threeWay_of_eq {x y : Int} (h : x = y) : threeWay x y = 0 := (if_neg h.not_lt).trans (if_neg h.not_gt)

theorem threeWay_sub_right (x y z : Int) : threeWay (x - z) (y - z) = threeWay x y := by
  simp only [threeWay, gt_iff_lt, Int.sub_lt_sub_right_iff]

theorem threeWay_uval (a b : Data) :
    threeWay (uval a) (uval b) = if a.toNat < b.toNat then -1 else if a.toNat > b.toNat then 1 else 0 := by
  simp only [threeWay, uval, gt_iff_lt, Int.ofNat_lt]

/-- `hi` decides, and `lo` on a tie (45_compare_sign.md R140). -/
theorem compareWords_eq_threeWay (a b : Data) : compareWords a b = threeWay (uval a) (uval b) := by
  have ha := toNat_eq_words a
  have hb := toNat_eq_words b
  have hla := (lo a).isLt
  have hlb := (lo b).isLt
  unfold compareWords
  split_ifs with hhi hhi' hlo hlo'
  · exact (threeWay_of_lt (Int.ofNat_lt.mpr (by omega))).symm
  · exact (threeWay_of_gt (Int.ofNat_lt.mpr (by omega))).symm
  · exact (threeWay_of_lt (Int.ofNat_lt.mpr (by omega))).symm
  · exact (threeWay_of_gt (Int.ofNat_lt.mpr (by omega))).symm
  · exact (threeWay_of_eq (congrArg Nat.cast (by omega))).symm

theorem sval_lt_sval_of_msb {a b : Data} (ha : a.msb = true) (hb : b.msb = false) : sval a < sval b := by
  rw [sval_eq_toInt, sval_eq_toInt]
  exact (BitVec.toInt_neg_of_msb_true ha).trans_le (BitVec.toInt_nonneg_of_msb_false hb)

/-- Equal signs: the order of the patterns is the signed order (45_compare_sign.md R141). -/
theorem threeWay_sval_of_msb_eq {a b : Data} (h : a.msb = b.msb) :
    threeWay (sval a) (sval b) = threeWay (uval a) (uval b) := by
  rw [sval, sval, h, threeWay_sub_right]

theorem compareSigned_eq_threeWay (a b : Data) : compareSigned a b = threeWay (sval a) (sval b) := by
  unfold compareSigned
  split_ifs with hzero hless hgreater
  · obtain ⟨rfl, rfl⟩ := hzero
    exact (threeWay_of_eq rfl).symm
  · obtain ⟨ha, hb⟩ := hless
    exact (threeWay_of_lt (sval_lt_sval_of_msb ha (Bool.eq_false_iff.mpr hb))).symm
  · obtain ⟨ha, hb⟩ := hgreater
    exact (threeWay_of_gt (sval_lt_sval_of_msb hb (Bool.eq_false_iff.mpr ha))).symm
  · have hmsb : a.msb = b.msb :=
      Bool.eq_iff_iff.mpr ⟨fun ha => by_contra fun hb => hless ⟨ha, hb⟩, fun hb => by_contra fun ha => hgreater ⟨ha, hb⟩⟩
    rw [compareWords_eq_threeWay, threeWay_sval_of_msb_eq hmsb]

/-- Settles O35: each method is the three-way comparison of the values. -/
theorem wordLevelComparesAgree : Obligations.WordLevelComparesAgree := by
  intro a b
  rw [compareWords_eq_threeWay, threeWay_uval, compareSigned_eq_threeWay, sval_eq_toInt, sval_eq_toInt]
  exact ⟨rfl, rfl⟩

theorem exec_sgn (s : State) : exec .sgn s = succeeds s (BitVec.ofInt 128 s.opa.toInt.sign) 0#128 false := by
  rw [← sval_eq_toInt, ← sign_eq]
  rfl

theorem exec_uabs (s : State) : exec .uabs s = succeeds s (BitVec.ofNat 128 s.opa.toInt.natAbs) 0#128 false := by
  rw [← sval_eq_toInt]
  exact succeed_enc_natCast _ s

theorem exec_abs_of_minValue {s : State} (h : s.opa = minValue) : exec .abs s = raises s 3#3 := if_pos h

/-- Off SMIN the checked absolute value is the magnitude (45_compare_sign.md R143, R144). -/
theorem exec_abs_of_ne_minValue {s : State} (h : s.opa ≠ minValue) : exec .abs s = exec .uabs s :=
  calc exec .abs s
    _ = if s.opa.msb then succeed (enc (-sval s.opa)) s else succeed s.opa s := if_neg h
    _ = if s.opa.msb then succeed (-s.opa) s else succeed s.opa s := by rw [enc, BitVec.ofInt_neg, ← enc, enc_sval]
    _ = succeed (magnitude s.opa) s := by rw [magnitude_eq_ite, apply_ite (succeed · s)]

/-- Settles O36: past its guard ABS answers what UABS does, and UABS encodes the absolute value. -/
theorem signAndAbsoluteValues : Obligations.SignAndAbsoluteValues :=
  ⟨rfl, rfl, rfl, fun s => ⟨exec_sgn s, exec_abs_of_minValue, fun h => (exec_abs_of_ne_minValue h).trans (exec_uabs s),
    exec_uabs s⟩⟩

theorem ordering_eq_enc (less greater : Prop) [Decidable less] [Decidable greater] :
    ordering less greater = enc (if less then -1 else if greater then 1 else 0) := by
  rw [apply_ite enc, apply_ite enc]
  rfl

theorem exec_cmpu (s : State) :
    exec .cmpu s = succeeds s (ordering (s.opa.toNat < s.opb.toNat) (s.opa.toNat > s.opb.toNat)) 0#128 false := by
  rw [ordering_eq_enc, ← threeWay_uval]
  rfl

theorem exec_cmps (s : State) :
    exec .cmps s = succeeds s (ordering (s.opa.toInt < s.opb.toInt) (s.opa.toInt > s.opb.toInt)) 0#128 false := by
  rw [ordering_eq_enc, ← sval_eq_toInt, ← sval_eq_toInt]
  rfl

/-- Settles O34: a comparison encodes the three-way comparison of the values. -/
theorem comparesAnswerThreeWay : Obligations.ComparesAnswerThreeWay :=
  ⟨rfl, rfl, fun s => ⟨exec_cmpu s, exec_cmps s⟩⟩

end Sys2Proof.Proofs
end

section
/-! SUPPORT. The conversions (46_convert.md). The idea: the low `n` bits of a pattern are its unsigned value mod 2^n, read
centred around zero for a signed type and from zero up for an unsigned one. A value that a narrowing lets through is its own
residue in that reading, so extending back gives the pattern. -/

namespace Sys2Proof.Proofs

open Sys2Proof.Machine Sys2Proof.Statements

theorem sext_eq_ofInt_bmod (n : Nat) (x : Data) : sext n x = BitVec.ofInt 128 (Int.bmod x.toNat (2 ^ n)) := by
  rw [sext, BitVec.signExtend, BitVec.toInt_setWidth]

theorem zext_eq_ofNat_mod (n : Nat) (x : Data) : zext n x = BitVec.ofNat 128 (x.toNat % 2 ^ n) := by
  rw [zext, ← BitVec.ofNat_toNat, BitVec.toNat_setWidth]

theorem signExtendN_eq (n : Nat) (s : State) :
    signExtendN n s = succeeds s (BitVec.ofInt 128 (Int.bmod s.opa.toNat (2 ^ n))) 0#128 false := by
  rw [← sext_eq_ofInt_bmod]
  rfl

theorem zeroExtendN_eq (n : Nat) (s : State) :
    zeroExtendN n s = succeeds s (BitVec.ofNat 128 (s.opa.toNat % 2 ^ n)) 0#128 false := by
  rw [← zext_eq_ofNat_mod]
  rfl

/-- Settles O37: the four words are evaluated, and each command is SEXT of one width. -/
theorem sextSignExtends : Obligations.SextSignExtends :=
  ⟨⟨rfl, signExtendN_eq 8⟩, ⟨rfl, signExtendN_eq 16⟩, ⟨rfl, signExtendN_eq 32⟩, ⟨rfl, signExtendN_eq 64⟩⟩

/-- Settles O38: the four words are evaluated, and each command is ZEXT of one width. -/
theorem zextZeroExtends : Obligations.ZextZeroExtends :=
  ⟨⟨rfl, zeroExtendN_eq 8⟩, ⟨rfl, zeroExtendN_eq 16⟩, ⟨rfl, zeroExtendN_eq 32⟩, ⟨rfl, zeroExtendN_eq 64⟩⟩

/-- A range check before ZEXT, which the signed and the unsigned narrowings share (46_convert.md R152, R153). -/
def narrowN (n : Nat) (low high : Int) (s : State) : Result :=
  if sval s.opa < low ∨ sval s.opa > high then fail .overflow s else zeroExtendN n s

theorem narrowSignedN_eq (n : Nat) (s : State) : narrowSignedN n s = narrowN n (-2 ^ (n - 1)) (2 ^ (n - 1) - 1) s := rfl

theorem narrowUnsignedN_eq (n : Nat) (s : State) : narrowUnsignedN n s = narrowN n 0 (2 ^ n - 1) s := rfl

theorem narrowN_of_inRange {n : Nat} {low high : Int} {s : State} (h : low ≤ s.opa.toInt ∧ s.opa.toInt ≤ high) :
    narrowN n low high s = zeroExtendN n s := by
  rw [← sval_eq_toInt] at h
  exact if_neg (by omega)

theorem narrowN_of_outOfRange {n : Nat} {low high : Int} {s : State} (h : ¬ (low ≤ s.opa.toInt ∧ s.opa.toInt ≤ high)) :
    narrowN n low high s = raises s 2#3 := by
  rw [← sval_eq_toInt] at h
  exact if_pos (by omega)

theorem narrows_of_exec_eq {i : Instr} {word : CmdWord} {n : Nat} {low high : Int} (hd : decode word = .cmd i)
    (hexec : ∀ s, exec i s = narrowN n low high s) : narrows i word n low high := by
  refine ⟨hd, fun s => ⟨fun h => ?_, fun h => ?_⟩⟩
  · rw [hexec, narrowN_of_inRange h, zeroExtendN_eq]
  · rw [hexec, narrowN_of_outOfRange h]

/-- The low `n` bits, read as signed, see the unsigned and the signed value of a pattern alike. -/
theorem bmod_toNat_eq_bmod_toInt {n : Nat} (hn : n ≤ 128) (x : Data) :
    Int.bmod x.toNat (2 ^ n) = Int.bmod x.toInt (2 ^ n) := by
  rw [BitVec.toInt_eq_toNat_bmod, Int.bmod_bmod_of_dvd (Nat.pow_dvd_pow 2 hn)]

/-- A value in the signed range of `n` bits is its own centred residue. -/
theorem bmod_two_pow_of_inRange {n : Nat} (hn : 0 < n) {v : Int} (hlow : -2 ^ (n - 1) ≤ v) (hhigh : v ≤ 2 ^ (n - 1) - 1) :
    Int.bmod v (2 ^ n) = v := by
  have htwice : 2 ^ (n - 1) + 2 ^ (n - 1) = 2 ^ n := Nat.two_pow_pred_add_two_pow_pred hn
  have hcast : ((2 ^ (n - 1) : Nat) : Int) = 2 ^ (n - 1) := by norm_cast
  apply Int.bmod_eq_of_le <;> omega

/-- Sign-extending what a signed narrowing to `n` bits lets through gives the pattern back (46_convert.md R152). -/
theorem ofInt_bmod_mod_eq_self {n : Nat} (hpos : 0 < n) (hn : n ≤ 128) {x : Data} (hlow : -2 ^ (n - 1) ≤ x.toInt)
    (hhigh : x.toInt ≤ 2 ^ (n - 1) - 1) : BitVec.ofInt 128 (Int.bmod (x.toNat % 2 ^ n : Nat) (2 ^ n)) = x := by
  rw [Int.natCast_emod, Int.emod_bmod, bmod_toNat_eq_bmod_toInt hn, bmod_two_pow_of_inRange hpos hlow hhigh,
    BitVec.ofInt_toInt]

/-- The widths of a conversion are positive and below that of a pattern (30_encoding.md R58). -/
theorem convertWidth_bounds : ∀ n ∈ [8, 16, 32, 64], 0 < n ∧ n < 128 := by decide

/-- Settles O39: each command is the range check of one width, and in that range the low bits hold the signed value. -/
theorem narsChecksTheSignedRange : Obligations.NarsChecksTheSignedRange := by
  refine ⟨narrows_of_exec_eq rfl (narrowSignedN_eq 8), narrows_of_exec_eq rfl (narrowSignedN_eq 16),
    narrows_of_exec_eq rfl (narrowSignedN_eq 32), narrows_of_exec_eq rfl (narrowSignedN_eq 64), fun x n hmem => ?_⟩
  obtain ⟨hpos, hlt⟩ := convertWidth_bounds n hmem
  exact ofInt_bmod_mod_eq_self hpos hlt.le

/-- A pattern is in the unsigned range of `n < 128` bits read as signed exactly when it is read as unsigned: the patterns with
bit 127 set are negative in one reading and too large in the other (46_convert.md R153). -/
theorem toInt_inRange_iff_toNat_le {n : Nat} (hn : n < 128) (x : Data) :
    0 ≤ x.toInt ∧ x.toInt ≤ 2 ^ n - 1 ↔ x.toNat ≤ 2 ^ n - 1 := by
  have hbelow : 2 ^ n ≤ 2 ^ 127 := Nat.pow_le_pow_right (by decide) (Nat.le_of_lt_succ hn)
  have hpos : 0 < 2 ^ n := Nat.two_pow_pos n
  have hcast : ((2 ^ n : Nat) : Int) = 2 ^ n := by norm_cast
  have hlt := x.isLt
  rw [BitVec.toInt_eq_toNat_cond]
  split <;> omega

/-- Zero-extending what an unsigned narrowing to `n` bits lets through gives the pattern back (46_convert.md R153). -/
theorem ofNat_mod_eq_self {n : Nat} {x : Data} (h : x.toNat ≤ 2 ^ n - 1) : BitVec.ofNat 128 (x.toNat % 2 ^ n) = x := by
  rw [Nat.mod_eq_of_lt (Nat.lt_of_le_pred (Nat.two_pow_pos n) h), BitVec.ofNat_toNat, BitVec.setWidth_eq]

/-- Settles O40: each command is the range check of one width, and in that range the unsigned value fits in the low bits. -/
theorem naruChecksTheUnsignedRange : Obligations.NaruChecksTheUnsignedRange := by
  refine ⟨narrows_of_exec_eq rfl (narrowUnsignedN_eq 8), narrows_of_exec_eq rfl (narrowUnsignedN_eq 16),
    narrows_of_exec_eq rfl (narrowUnsignedN_eq 32), narrows_of_exec_eq rfl (narrowUnsignedN_eq 64), fun x n hmem => ?_⟩
  have hrange := toInt_inRange_iff_toNat_le (convertWidth_bounds n hmem).2 x
  exact ⟨hrange, fun hlow hhigh => ofNat_mod_eq_self (hrange.mp ⟨hlow, hhigh⟩)⟩

end Sys2Proof.Proofs
end

section
/-! SUPPORT. Edges under RST, idle edges and the fault of FLS (70_reset_and_hazards.md R190, R191; 60_exceptions.md R169,
R180), and what a response of any command leaves alone (R165). -/

namespace Sys2Proof.Proofs

open Sys2Proof.Machine Sys2Proof.Statements

/-- RST is read before anything else (70_reset_and_hazards.md R190). -/
theorem step_of_reset {s : State} (hr : s.port.rst = true) : step s = .next s.advance.resetEdge := if_pos hr

/-- With no reset, nothing in flight and no START the block holds (60_exceptions.md R180). -/
theorem step_of_idle {s : State} (hr : s.port.rst = false) (hst : s.port.start = false) (hb : s.busy = false) :
    step s = .next s.advance := by
  simp [step, clockEdge, hr, hst, hb]

/-- Settles O2: the step is the reset edge. -/
theorem resetEdgeResetsTheBlock : Obligations.ResetEdgeResetsTheBlock := by
  intro s p rest hin hr
  rw [← State.port_of_cons hin] at hr
  exact ⟨_, step_of_reset hr, rfl, rfl, rfl, rfl, rfl, rfl, rfl, rfl, rfl, rfl⟩

theorem runSteps_succ_of_fault {s : State} {f : Fault} (h : step s = .fault f) (n : Nat) :
    runSteps (n + 1) s = .fault f := by
  simp only [runSteps, h]

/-- Settles O16: the first step is the fault, and a run ends there. -/
theorem flsFaultIsNeverCleared : Obligations.FlsFaultIsNeverCleared := by
  intro s p rest n hin hr hb hw hcmd ha
  rw [← State.port_of_cons hin] at hr
  have hfls : decode s.advance.cmd = .cmd .fls := congrArg decode hcmd
  exact runSteps_succ_of_fault ((step_of_completing hr hb hw).trans (respond_of_fls_of_zero hfls ha)) n

/-- What the idle levels past the end of the schedule have too holds of the next `n + 1` edges when it holds of the next one
and, after it, of `n`. -/
theorem forall_mem_take_inputs_succ_iff {P : PortIn → Prop} (hidle : P PortIn.idle) (n : Nat) (s : State) :
    (∀ q ∈ s.inputs.take (n + 1), P q) ↔ P s.port ∧ ∀ q ∈ s.advance.inputs.take n, P q := by
  cases hin : s.inputs <;> simp [State.port, hin, hidle]

/-- Settles O5, by induction on the number of edges: each one moves the schedule on and holds the rest. -/
theorem idleBlockHoldsItsRegisters : Obligations.IdleBlockHoldsItsRegisters := by
  intro n
  induction n with
  | zero => exact fun s _ _ => rfl
  | succ n ih =>
    intro s hb hidle
    obtain ⟨⟨hr, hst⟩, hrest⟩ :=
      (forall_mem_take_inputs_succ_iff (P := fun q => q.rst = false ∧ q.start = false) ⟨rfl, rfl⟩ n s).mp hidle
    calc runSteps (n + 1) s
      _ = runSteps n s.advance := runSteps_succ_of_step (step_of_idle hr hst hb) n
      _ = .next { s with inputs := s.inputs.tail.drop n } := ih s.advance hb hrest
      _ = .next { s with inputs := s.inputs.drop (n + 1) } := by rw [List.drop_tail]

/-- Settles O45: whatever a command answers, it answers by one write of the response. -/
theorem commandsWriteOnlyTheResponse : Obligations.CommandsWriteOnlyTheResponse := by
  intro s t h
  obtain ⟨r, rfl, -⟩ := exists_answer_of_respond h
  exact rfl

/-- Settles O44: of the ways to end only raising leaves an error, and it clears the rest of the response. -/
theorem errorsDeliverNoResult : Obligations.ErrorsDeliverNoResult := by
  intro s t h herr
  have hends := respond_ends s
  rw [h] at hends
  cases hends with
  | raises => exact ⟨rfl, rfl, rfl, rfl, rfl⟩
  | succeeds | writesCarry | writesRes2 => exact absurd rfl herr

end Sys2Proof.Proofs
end

section
/-! SUPPORT. The causes of errors (60_exceptions.md R166). The idea: two passes over the commands. Where the table names a
cause the command raises that error, and a command raises only where the table names the cause; so a code shows exactly its
cause, because the codes differ. -/

namespace Sys2Proof.Proofs

open Sys2Proof.Machine Sys2Proof.Statements

/-- The table of 60_exceptions.md R166: when the latched command raises an error, none at all for the reserved kind. -/
def Cause (s : State) : ErrKind → Prop
  | .divideByZero => ∃ i, decode s.cmd = .cmd i ∧ divides i ∧ s.opb = 0#128
  | .overflow => ∃ i low high, decode s.cmd = .cmd i ∧ (i, low, high) ∈ narrowBounds ∧
      ¬ (low ≤ s.opa.toInt ∧ s.opa.toInt ≤ high)
  | .arithmetic => ((decode s.cmd = .cmd .negs ∨ decode s.cmd = .cmd .abs) ∧ s.opa = minValue) ∨
      (decode s.cmd = .cmd .muls ∧ (s.opa = minusOne ∧ s.opb = minValue ∨ s.opa = minValue ∧ s.opb = minusOne))
  | .format => False
  | .zeroOperand => decode s.cmd = .cmd .flsc ∧ s.opa = 0#128
  | .illegalCommand => illegalBy s.cmd

theorem exec_of_divides_of_zero {i : Instr} {s : State} (hi : divides i) (hb : s.opb = 0#128) :
    exec i s = raises s 1#3 := by
  rcases hi with rfl | rfl | rfl | rfl | rfl | rfl <;> exact if_pos hb

/-- The commands with bounds are the range checks of these bounds (46_convert.md R152, R153). -/
theorem exists_exec_eq_narrowN {i : Instr} {low high : Int} (h : (i, low, high) ∈ narrowBounds) :
    ∃ n, exec i = narrowN n low high := by
  simp only [narrowBounds, List.mem_cons, List.not_mem_nil, or_false, Prod.mk.injEq] at h
  rcases h with ⟨rfl, rfl, rfl⟩ | ⟨rfl, rfl, rfl⟩ | ⟨rfl, rfl, rfl⟩ | ⟨rfl, rfl, rfl⟩ | ⟨rfl, rfl, rfl⟩ | ⟨rfl, rfl, rfl⟩ |
    ⟨rfl, rfl, rfl⟩ | ⟨rfl, rfl, rfl⟩ <;> exact ⟨_, rfl⟩

/-- First pass: every cause is met with its error. -/
theorem respond_of_cause {s : State} {e : ErrKind} (h : Cause s e) : respond s = raises s e.code := by
  cases e with
  | divideByZero =>
    obtain ⟨i, hd, hi, hb⟩ := h
    exact (respond_of_decode hd).trans (exec_of_divides_of_zero hi hb)
  | overflow =>
    obtain ⟨i, low, high, hd, hmem, hrange⟩ := h
    obtain ⟨n, hexec⟩ := exists_exec_eq_narrowN hmem
    rw [respond_of_decode hd, hexec]
    exact narrowN_of_outOfRange hrange
  | arithmetic =>
    rcases h with ⟨hd | hd, ha⟩ | ⟨hd, hpair⟩
    · exact (respond_of_decode hd).trans (exec_negs_of_minValue ha)
    · exact (respond_of_decode hd).trans (exec_abs_of_minValue ha)
    · exact (respond_of_decode hd).trans (exec_muls_of_raising_pair hpair)
  | format => exact h.elim
  | zeroOperand =>
    obtain ⟨hd, ha⟩ := h
    exact (respond_of_decode hd).trans (exec_flsc_of_zero ha)
  | illegalCommand => exact illegalWordsRaiseIllegalCommand.1 s h

/-- The ways to end, where every error has a cause in `C`. -/
inductive EndsBy (C : ErrKind → Prop) : Result → Prop
  | faults (f : Fault) : EndsBy C (.fault f)
  | completes (s : State) (r r2 : Data) (c : Bool) : EndsBy C (.next (s.complete r r2 c))
  | raises (s : State) {e : ErrKind} (h : C e) : EndsBy C (.next (s.raise e))

section
variable {C : ErrKind → Prop} {p : Prop} [Decidable p]

theorem EndsBy.ite {x y : Result} (hx : p → EndsBy C x) (hy : ¬ p → EndsBy C y) : EndsBy C (if p then x else y) := by
  split
  · exact hx ‹_›
  · exact hy ‹_›

/-- A guard that raises is the cause of its error. -/
theorem EndsBy.guarded {s : State} {e : ErrKind} {x : Result} (h : p → C e) (hx : EndsBy C x) :
    EndsBy C (if p then fail e s else x) := .ite (fun hp => .raises s (h hp)) fun _ => hx

end

theorem endsBy_of_divides {i : Instr} {s : State} {x : Result} (hd : decode s.cmd = .cmd i) (hi : isDivide i = true)
    (hx : EndsBy (Cause s) x) : EndsBy (Cause s) (if s.opb = zero then fail .divideByZero s else x) :=
  .guarded (fun hb => ⟨i, hd, (isDivide_eq_true_iff i).mp hi, hb⟩) hx

theorem endsBy_narrowN {i : Instr} {s : State} {low high : Int} (hd : decode s.cmd = .cmd i)
    (hmem : (i, low, high) ∈ narrowBounds) (n : Nat) : EndsBy (Cause s) (narrowN n low high s) := by
  refine .guarded (fun hout => ⟨i, low, high, hd, hmem, ?_⟩) (.completes s _ _ _)
  rw [sval_eq_toInt] at hout
  omega

/-- Second pass, command by command: first those that never raise, then those with a guard. -/
theorem exec_endsBy {i : Instr} {s : State} (hd : decode s.cmd = .cmd i) : EndsBy (Cause s) (exec i s) := by
  cases i with
  | add | addc | sub | neg | and | or | xor | not | shl | shr | sar | clz64 | umul64 | mul | cmpu | cmps | sgn | uabs =>
    exact .completes s _ _ _
  | sextB | sextH | sextW | sextD | zextB | zextH | zextW | zextD => exact .completes s _ _ _
  | fls => exact .ite (fun _ => .faults _) fun _ => .completes s _ _ _
  | flsc => exact .guarded (fun ha => ⟨hd, ha⟩) (.completes s _ _ _)
  | negs => exact .guarded (fun ha => .inl ⟨.inl hd, ha⟩) (.completes s _ _ _)
  | abs =>
    exact .guarded (fun ha => .inl ⟨.inr hd, ha⟩) (.ite (fun _ => .completes s _ _ _) fun _ => .completes s _ _ _)
  | divu | remu | divmodu | divs | rems | divmods => exact endsBy_of_divides hd rfl (.completes s _ _ _)
  | narsB | narsH | narsW | narsD | naruB | naruH | naruW | naruD => exact endsBy_narrowN hd (by decide) _
  | muls =>
    by_cases hpair : s.opa = minusOne ∧ s.opb = minValue ∨ s.opa = minValue ∧ s.opb = minusOne
    · rw [exec_muls_of_raising_pair hpair]
      exact .raises s (e := .arithmetic) (.inr ⟨hd, hpair⟩)
    · rw [exec_muls_of_not_raising_pair hpair]
      exact .completes s _ _ _

theorem respond_endsBy (s : State) : EndsBy (Cause s) (respond s) := by
  cases hd : decode s.cmd with
  | cmd i =>
    rw [respond_of_decode hd]
    exact exec_endsBy hd
  | illegal why =>
    have hillegal := illegalBy_of_decode hd
    rw [respond_of_cause (e := .illegalCommand) hillegal]
    exact .raises s (e := .illegalCommand) hillegal

theorem code_injective : Function.Injective ErrKind.code := by
  intro e e' h
  cases e <;> cases e' <;> simp [ErrKind.code] at h ⊢

theorem code_ne_zero (e : ErrKind) : e.code ≠ 0#3 := by cases e <;> decide

/-- 7 is no code (60_exceptions.md R166). -/
theorem code_ne_seven (e : ErrKind) : e.code ≠ 7#3 := by cases e <;> decide

/-- An answer succeeds or shows the code of a cause. -/
theorem err_eq_zero_or_exists_cause {s t : State} (h : respond s = .next t) :
    t.err = 0#3 ∨ ∃ e, Cause s e ∧ t.err = e.code := by
  have hends := respond_endsBy s
  rw [h] at hends
  cases hends with
  | completes => exact .inl rfl
  | raises _ hcause => exact .inr ⟨_, hcause, rfl⟩

/-- A code is answered exactly on its cause. -/
theorem err_eq_code_iff {s t : State} (h : respond s = .next t) (e : ErrKind) : t.err = e.code ↔ Cause s e := by
  constructor
  · intro herr
    rcases err_eq_zero_or_exists_cause h with hnone | ⟨e', hcause, hcode⟩
    · exact absurd (herr.symm.trans hnone) (code_ne_zero e)
    · exact code_injective (hcode.symm.trans herr) ▸ hcause
  · intro hcause
    rw [respond_of_cause hcause] at h
    cases h
    rfl

/-- Settles O43: each code is answered exactly on its cause, the reserved one has none, and 7 is no code. -/
theorem errorCausesAreTheTable : Obligations.ErrorCausesAreTheTable := by
  intro s t h
  refine ⟨err_eq_code_iff h .divideByZero, err_eq_code_iff h .overflow, err_eq_code_iff h .arithmetic,
    err_eq_code_iff h .zeroOperand, err_eq_code_iff h .illegalCommand, (err_eq_code_iff h .format).mp, fun hseven => ?_⟩
  rcases err_eq_zero_or_exists_cause h with hnone | ⟨e, -, hcode⟩
  · exact absurd (hseven.symm.trans hnone) (by decide)
  · exact absurd (hcode.symm.trans hseven) (code_ne_seven e)

end Sys2Proof.Proofs
end

section
/-! SUPPORT. The reference latencies (70_reset_and_hazards.md R199): one cycle and the loop of the divider, which runs from the
dividend's last set bit down to the divisor's. -/

namespace Sys2Proof.Proofs

open Sys2Proof.Machine

theorem loopCount_le (ua ub : Data) : loopCount ua ub ≤ 128 := by
  have hle := flsIndex_le ua
  unfold loopCount
  split <;> omega

/-- One cycle and, in the divide family, the loop. -/
theorem exists_referenceLatency_eq (w : CmdWord) (a b : Data) : ∃ k ≤ 128, referenceLatency w a b = 1 + k := by
  unfold referenceLatency
  split
  case h_7 => exact ⟨0, Nat.zero_le _, rfl⟩
  all_goals exact ⟨_, loopCount_le _ _, rfl⟩

theorem flsIndex_of_msb {a : Data} (h : a.msb = true) : flsIndex a = 127 := by
  have hge : 2 ^ 127 ≤ a.toNat := BitVec.le_toNat_of_msb_true h
  have hne : a ≠ zero := by
    rintro rfl
    exact absurd h (by decide)
  have hlt : 2 ^ 127 < 2 ^ (flsIndex a + 1) := hge.trans_lt (flsIndex_spec hne).2
  have hindex := (Nat.pow_lt_pow_iff_right (by decide)).mp hlt
  have hle := flsIndex_le a
  omega

theorem flsIndex_one : flsIndex 1#128 = 0 := by decide

/-- A dividend with bit 127 set and the divisor ONE take no fast path and stand 127 bits apart. -/
theorem loopCount_of_msb_one {a : Data} (h : a.msb = true) : loopCount a 1#128 = 128 := by
  have hge : 2 ^ 127 ≤ a.toNat := BitVec.le_toNat_of_msb_true h
  have hslow : ¬ (1#128 = zero ∨ (1#128).toNat > a.toNat ∨ 1#128 = a) := by
    rintro (h0 | hlt | rfl)
    · exact absurd h0 (by decide)
    · rw [BitVec.toNat_ofNat] at hlt
      omega
    · exact absurd h (by decide)
  rw [loopCount, if_neg hslow, flsIndex_of_msb h, flsIndex_one]

/-- Settles O52: the loop runs at most 128 times, and 128 times on these operands. -/
theorem referenceLatencyWithin129 : Obligations.ReferenceLatencyWithin129 := by
  refine ⟨fun w a b => ?_, fun a h => ?_⟩
  · obtain ⟨k, hk, heq⟩ := exists_referenceLatency_eq w a b
    omega
  · calc referenceLatency 0x00000022#32 a 1#128
      _ = 1 + loopCount a 1#128 := rfl
      _ = 129 := by rw [loopCount_of_msb_one h]

end Sys2Proof.Proofs
end
